-- ==== Sys2Proof/Word.lean ====
section
/-! DEFINITION. The two word types of the machine (00_scope.md R5, R8). -/

namespace Sys2Proof

/-- A general register, an immediate byte, a memory byte: 8 bits (R5, R10). -/
abbrev Byte := BitVec 8

/-- A register pair, SP, PC, a bus address: 16 bits (R5, R15, R16). -/
abbrev Word := BitVec 16

end Sys2Proof
end

