-- ==== Sys2Proof/Machine/Bits.lean ====
section
/-! DEFINITION. Concatenation, halves, sign extension and byte extraction (00_scope.md R8, 30_encoding.md R78). -/

namespace Sys2Proof.Machine

/-- The word of a high and a low byte, high byte in bits 15 to 8 (R13, R44). -/
def mkWord (hi lo : Byte) : Word := hi ++ lo

/-- `v[15:8]`. -/
def hiByte (v : Word) : Byte := v.extractLsb' 8 8

/-- `v[7:0]`. -/
def loByte (v : Word) : Byte := v.extractLsb' 0 8

/-- `int(v[3:0])`: the low nibble as a number (R8). -/
def lowNibble (v : Byte) : Nat := v.toNat % 16

/-- `sext_16(e)`: bit 7 copied into bits 15 to 8 (R8, R142). -/
def sext16 (e : Byte) : Word := e.signExtend 16

/-- The high-page address 0xFF00 + the zero-extended offset (R50, R78). -/
def highPage (offset : Byte) : Word := mkWord 0xFF offset

/-- Byte `k` of a number, byte 0 the least significant. -/
def byteOf (w k : Nat) : Byte := BitVec.ofNat 8 (w / 2 ^ (8 * k))

end Sys2Proof.Machine
end

