-- ==== Sys2Proof/Config.lean ====
section
/-! DEFINITION. The parameters of the hardware (00_scope.md R5, 92_eei_decisions.md "Parameters left OPEN"):
the fixed ones with their values, the OPEN reset parameters at the spec's own defaults, and the one value the
spec names and never gives (the base cycle cost), as a constant without a body. -/

namespace Sys2Proof.Config

/-- MEM_SIZE: the number of addressable bytes (R5, R22; spec decision D8, log entry 8). -/
def memSize : Nat := 65536

/-- PREFIX: the prefix escape byte (R5, R71). -/
def prefixByte : Byte := 0xCB

/-- The base cycle cost of a decode-table entry, by opcode byte and prefixed mark (R79, R290): the source says
that each entry has one and gives no value. FREE VALUE: no body, nothing in the machine reads it (log entry 12). -/
opaque baseCycles : Byte → Bool → Nat

/-! The defaults of the OPEN reset parameters (R25). DESIGN CHOICE of the spec, log entries 1 and 2: unsafe. -/

def resetA : Byte := 0x00
def resetB : Byte := 0x00
def resetC : Byte := 0x00
def resetD : Byte := 0x00
def resetE : Byte := 0x00
def resetH : Byte := 0x00
def resetL : Byte := 0x00
def resetZ : Bool := false
def resetN : Bool := false
def resetHalf : Bool := false
def resetCarry : Bool := false
def resetSP : Word := 0x0000
def resetPC : Word := 0x0000

/-- What an address that the memory does not list reads as: the default of RESET_MEM (R25; log entry 2). -/
def unlistedByte : Byte := 0x00

end Sys2Proof.Config
end

