-- ==== Sys2Proof/Machine/State.lean ====
section
/-! DEFINITION. The architectural state, exactly the list of 10_state.md R26, as plain data; the two fatal
conditions; why a step can stop; the state after reset. -/

namespace Sys2Proof.Machine

/-- The Flags register F: four independent Booleans, no other bits (R11). -/
structure Flags where
  /-- zero -/
  z : Bool
  /-- subtract -/
  n : Bool
  /-- half-carry -/
  h : Bool
  /-- carry -/
  c : Bool
  deriving DecidableEq, Repr

/-- The two fatal conditions and what each reports (R240, R241; a third wording of the source is the first of
them, R242). -/
inductive FatalCondition where
  /-- The decoder finds no entry: the opcode byte and the prefixed mark (R240). -/
  | unknownOpcode (opcode : Byte) (prefixed : Bool)
  /-- A bus access outside the memory: the offending address (R241; never raised on the flat bus, R52). -/
  | outOfRange (addr : Nat)
  deriving DecidableEq, Repr

/-- The run status, which keeps the report of the fatal condition (R23, R243). -/
inductive RunStatus where
  | running
  | faulted (report : FatalCondition)
  deriving DecidableEq, Repr

/-- Memory as address and byte pairs, addresses strictly rising, no byte equal to what an unlisted address
reads as (`Memory.wf` in Ops.lean): the 65,536 bytes of R22. -/
abbrev Memory := List Host.Cell

/-- The architectural state (R26): "There is nothing else". -/
structure State where
  /-- The accumulator (R10). -/
  a : Byte
  b : Byte
  c : Byte
  d : Byte
  e : Byte
  h : Byte
  l : Byte
  /-- The Flags register (R11). -/
  f : Flags
  /-- The stack pointer (R15). -/
  sp : Word
  /-- The program counter: between steps, the address of the next instruction's first byte (R16, R17). -/
  pc : Word
  /-- The one address space (R22). -/
  mem : Memory
  /-- Running or Faulted (R23). -/
  status : RunStatus
  deriving DecidableEq, Repr

/-- Why a step stops. -/
inductive Fault where
  /-- Raised by `step`, and by nothing else, on a machine whose status is Faulted: "In Faulted the machine has no
  further step" (R243). It carries the report the status holds. Safe: nothing can be proved to follow. -/
  | halted (report : FatalCondition)
  deriving DecidableEq, Repr

/-- Why an instruction has no meaning here. -/
inductive Refusal where
  /-- An arm of `exec` whose instruction has no meaning yet. No arm raises it in this model. Safe. -/
  | notModelled (mnemonic : String)
  deriving DecidableEq, Repr

/-- The state after reset: every piece of R26 at the default of its RESET parameter, status Running (R25, R270).
DESIGN CHOICE (log entries 1, 2): the source gives no reset value; these are the spec's own defaults. -/
def State.reset : State where
  a := Config.resetA
  b := Config.resetB
  c := Config.resetC
  d := Config.resetD
  e := Config.resetE
  h := Config.resetH
  l := Config.resetL
  f := ⟨Config.resetZ, Config.resetN, Config.resetHalf, Config.resetCarry⟩
  sp := Config.resetSP
  pc := Config.resetPC
  mem := []
  status := .running

end Sys2Proof.Machine
end

