-- ==== Sys2Proof/Machine/Flags.lean ====
section
/-! DEFINITION. Every flag computation: packing (10_state.md R12), the 8-bit ALU (40_nop_alu8.md R126, R127, R113 to
R121), the 16-bit addition and the SP offset (41_alu16.md R140, R142). As in the spec, operands become integers, the
sum or difference is exact, and it is narrowed at the end. -/

namespace Sys2Proof.Machine

/-- `Fbyte()`: bit 7 zero, bit 6 subtract, bit 5 half-carry, bit 4 carry, bits 3 to 0 zero (R12). -/
def Flags.pack (f : Flags) : Byte :=
  BitVec.ofBool f.z ++ BitVec.ofBool f.n ++ BitVec.ofBool f.h ++ BitVec.ofBool f.c ++ 0b0000#4

/-- Unpacking ignores bits 3 to 0 (R12). -/
def Flags.unpack (v : Byte) : Flags :=
  ⟨v.getLsbD 7, v.getLsbD 6, v.getLsbD 5, v.getLsbD 4⟩

/-- A result byte with the flags computed beside it. -/
structure AluOut where
  res : Byte
  flags : Flags
  deriving DecidableEq, Repr

/-- A result word with the flags computed beside it. -/
structure AluOut16 where
  res : Word
  flags : Flags
  deriving DecidableEq, Repr

/-- The addition function with its carry-in (R126). -/
def add8 (a v : Byte) (ci : Bool) : AluOut :=
  let t := a.toNat + v.toNat + ci.toNat
  let res := BitVec.ofNat 8 t
  { res
    flags :=
      { z := res == 0
        n := false
        h := decide (lowNibble a + lowNibble v + ci.toNat > 0xF)
        c := decide (t > 0xFF) } }

/-- The subtraction function with its borrow-in (R127). -/
def sub8 (a v : Byte) (bi : Bool) : AluOut :=
  let t : Int := (a.toNat : Int) - v.toNat - bi.toNat
  let res := BitVec.ofInt 8 t
  { res
    flags :=
      { z := res == 0
        n := true
        h := decide ((lowNibble a : Int) - lowNibble v - bi.toNat < 0)
        c := decide (t < 0) } }

/-- AND: half-carry always set (R113). -/
def and8 (a v : Byte) : AluOut :=
  { res := a &&& v, flags := { z := a &&& v == 0, n := false, h := true, c := false } }

/-- XOR (R116). -/
def xor8 (a v : Byte) : AluOut :=
  { res := a ^^^ v, flags := { z := a ^^^ v == 0, n := false, h := false, c := false } }

/-- OR (R119). -/
def or8 (a v : Byte) : AluOut :=
  { res := a ||| v, flags := { z := a ||| v == 0, n := false, h := false, c := false } }

/-- ADD HL: half-carry out of bit 11, carry out of bit 15, the zero flag handed through (R140, R27). -/
def add16 (a b : Word) (z : Bool) : AluOut16 :=
  let t := a.toNat + b.toNat
  { res := BitVec.ofNat 16 t
    flags :=
      { z
        n := false
        h := decide (a.toNat % 0x1000 + b.toNat % 0x1000 > 0xFFF)
        c := decide (t > 0xFFFF) } }

/-- SP plus a signed byte; both carries are those of the unsigned addition of the low bytes (R142). -/
def spOffset (sp : Word) (e : Byte) : AluOut16 :=
  { res := BitVec.ofNat 16 (sp.toNat + (sext16 e).toNat)
    flags :=
      { z := false
        n := false
        h := decide (sp.toNat % 16 + lowNibble e > 0xF)
        c := decide (sp.toNat % 256 + e.toNat > 0xFF) } }

end Sys2Proof.Machine
end

