-- ==== Sys2Proof/Machine/Ops.lean ====
section
/-! DEFINITION. The named operations over memory and registers: the bus primitives (20_memory.md R42 to R46), the
stack primitives (45_stack.md R212, R215), retiring (10_state.md R17), and taking a fatal condition
(60_exceptions.md R243). There is no return from one (R246). -/

namespace Sys2Proof.Machine

/-! ### Memory -/

/-- The byte at an address. -/
def Memory.read : Memory → Nat → Byte
  | [], _ => Config.unlistedByte
  | (k, v) :: m, addr => if k = addr then v else Memory.read m addr

/-- The memory with an address no longer listed. -/
def Memory.erase : Memory → Nat → Memory
  | [], _ => []
  | (k, v) :: m, addr => if k = addr then Memory.erase m addr else (k, v) :: Memory.erase m addr

/-- The memory with a cell put before the first larger address. -/
def Memory.insert : Memory → Nat → Byte → Memory
  | [], addr, v => [(addr, v)]
  | (k, w) :: m, addr, v =>
    if addr < k then (addr, v) :: (k, w) :: m else (k, w) :: Memory.insert m addr v

/-- Store a byte, keeping the canonical form. -/
def Memory.write (m : Memory) (addr : Nat) (v : Byte) : Memory :=
  if v = Config.unlistedByte then m.erase addr else (m.erase addr).insert addr v

/-- The canonical form: addresses strictly rising and inside the memory, no cell that holds what an unlisted
address reads as. -/
def Memory.wf : Memory → Bool
  | [] => true
  | (k, v) :: m =>
    decide (k < Config.memSize) && (v != Config.unlistedByte) && m.all (fun cell => decide (k < cell.1)) &&
      Memory.wf m

/-- RESET_MEM as the spec gives it, a function from address to byte (R25), in canonical form. -/
def Memory.ofFun (f : Word → Byte) : Memory :=
  (List.range Config.memSize).filterMap fun k =>
    let v := f (BitVec.ofNat 16 k)
    if v = Config.unlistedByte then none else some (k, v)

/-- `read_byte` with the range check of the source: OutOfRange outside the declared space (R42, R52, R241). -/
def busRead (m : Memory) (addr : Nat) : Except FatalCondition Byte :=
  if addr < Config.memSize then .ok (m.read addr) else .error (.outOfRange addr)

/-- `write_byte` with the range check of the source (R43, R52, R241). -/
def busWrite (m : Memory) (addr : Nat) (v : Byte) : Except FatalCondition Memory :=
  if addr < Config.memSize then .ok (m.write addr v) else .error (.outOfRange addr)

/-- `MemRead(addr, 1)` (R42): a 16-bit address is always inside the space, so no check is left (R52;
`busRead_word` in Laws/Memory.lean). -/
def State.readByte (s : State) (addr : Word) : Byte := s.mem.read addr.toNat

/-- `MemWrite(addr, 1, v)` (R43). -/
def State.writeByte (s : State) (addr : Word) (v : Byte) : State :=
  { s with mem := s.mem.write addr.toNat v }

/-- `MemRead(addr, 2)`: low byte at the address, high byte at the next one, modulo 65,536 (R44, R46). -/
def State.readWord (s : State) (addr : Word) : Word := mkWord (s.readByte (addr + 1)) (s.readByte addr)

/-- `MemWrite(addr, 2, v)`: low byte first, then the high byte at the next address (R45, R46). -/
def State.writeWord (s : State) (addr : Word) (v : Word) : State :=
  (s.writeByte addr (loByte v)).writeByte (addr + 1) (hiByte v)

/-! ### Program counter, stack, fatal conditions -/

/-- Retire past an instruction of `n` bytes (R17). -/
def State.advance (s : State) (n : Nat) : State := { s with pc := s.pc + BitVec.ofNat 16 n }

/-- `push16`: high byte at SP - 1, then low byte at SP - 2 (R212). -/
def State.push16 (s : State) (v : Word) : State :=
  let s1 := { s with sp := s.sp - 1 }
  let s2 := s1.writeByte s1.sp (hiByte v)
  let s3 := { s2 with sp := s2.sp - 1 }
  s3.writeByte s3.sp (loByte v)

/-- `pop16`: low byte at SP, then high byte at SP + 1; memory is not changed (R215). -/
def State.pop16 (s : State) : Word × State :=
  let lo := s.readByte s.sp
  let s1 := { s with sp := s.sp + 1 }
  let hi := s1.readByte s1.sp
  (mkWord hi lo, { s1 with sp := s1.sp + 1 })

/-- Taking a fatal condition: the run status becomes Faulted and holds the report; nothing is saved, nothing is
pushed, PC is not assigned (R243, R245). -/
def State.raise (s : State) (r : FatalCondition) : State := { s with status := .faulted r }

end Sys2Proof.Machine
end

