-- ==== Sys2Proof/Syntax.lean ====
section
/-! DEFINITION. The syntax: operand forms (30_encoding.md R74 to R78), the source's closed instruction variant
(00_scope.md R3, 30_encoding.md R81), and `Instr`, one constructor per row of spec/opcode_table.json. -/

namespace Sys2Proof

/-- The seven general registers (R10). -/
inductive Reg8 where
  | a | b | c | d | e | h | l
  deriving DecidableEq, Repr

/-- The pair views of R13; PUSH and POP range over them (table rp2 of R75). -/
inductive Pair where
  | bc | de | hl | af
  deriving DecidableEq, Repr

/-- Table rp of R75, for LD rr,d16 and ADD HL,rr: three pairs, or SP. -/
inductive Rp where
  | bc | de | hl | sp
  deriving DecidableEq, Repr

/-- The five conditions (R150). -/
inductive Cond where
  | nz | z | nc | c | always
  deriving DecidableEq, Repr

/-- The eight 8-bit ALU operations (R77). -/
inductive AluOp where
  | add | adc | sub | sbc | and | xor | or | cp
  deriving DecidableEq, Repr

/-- The memory operand forms of one byte (R78, R160): (HL), (BC), (DE), (HL+), (HL-), (a16), (a8), (C). -/
inductive MemOp where
  | hl | bc | de | hlInc | hlDec
  | direct (a16 : Word)
  | high (a8 : Byte)
  | highC
  deriving DecidableEq, Repr

/-- What an 8-bit operation may read: a register, a byte in memory, an immediate byte (R125, R160). -/
inductive Src where
  | reg (r : Reg8)
  | mem (m : MemOp)
  | d8 (v : Byte)
  deriving DecidableEq, Repr

/-- What a byte load may write: a register or a byte in memory; an immediate is never a target (R160). -/
inductive Dst where
  | reg (r : Reg8)
  | mem (m : MemOp)
  deriving DecidableEq, Repr

/-- The source's closed instruction variant, with operands (R3, R81): the families the constructors of `Instr` fall
into. Not every combination of operands has an encoding: `Variant.wf` in WellFormed.lean says which do. -/
inductive Variant where
  | nop
  | alu (op : AluOp) (src : Src)
  | addHL (rr : Rp)
  | addSP (e8 : Byte)
  | jp (cc : Cond) (a16 : Word)
  | load8 (dst : Dst) (src : Src)
  | loadPair (rr : Rp) (d16 : Word)
  | storeSP (a16 : Word)
  | loadSPHL
  | loadHLSP (e8 : Byte)
  | push (p : Pair)
  | pop (p : Pair)
  | call (cc : Cond) (a16 : Word)
  | ret (cc : Cond)
  deriving DecidableEq, Repr

/-- One constructor per row of spec/opcode_table.json. Names follow the assembly spelling of R81; an `m` before a
name is a memory operand: `ld_a_mhli` is LD A,(HL+), `ld_a_mc` is LD A,(C), `ld_a_c` is LD A,C. An argument is the
immediate. `prefix_cb` carries the byte after the prefix; the `unassigned` rows are the 62 bytes of R86.
(The order is that of R81, not that of the bytes: Lean's runtime numbers at most 244 constructors with fields.) -/
inductive Instr where
  | nop
  | add_a_b
  | add_a_c
  | add_a_d
  | add_a_e
  | add_a_h
  | add_a_l
  | add_a_a
  | add_a_mhl
  | add_a_d8 (v : Byte)
  | adc_a_b
  | adc_a_c
  | adc_a_d
  | adc_a_e
  | adc_a_h
  | adc_a_l
  | adc_a_a
  | adc_a_mhl
  | adc_a_d8 (v : Byte)
  | sub_b
  | sub_c
  | sub_d
  | sub_e
  | sub_h
  | sub_l
  | sub_a
  | sub_mhl
  | sub_d8 (v : Byte)
  | sbc_a_b
  | sbc_a_c
  | sbc_a_d
  | sbc_a_e
  | sbc_a_h
  | sbc_a_l
  | sbc_a_a
  | sbc_a_mhl
  | sbc_a_d8 (v : Byte)
  | and_b
  | and_c
  | and_d
  | and_e
  | and_h
  | and_l
  | and_a
  | and_mhl
  | and_d8 (v : Byte)
  | xor_b
  | xor_c
  | xor_d
  | xor_e
  | xor_h
  | xor_l
  | xor_a
  | xor_mhl
  | xor_d8 (v : Byte)
  | or_b
  | or_c
  | or_d
  | or_e
  | or_h
  | or_l
  | or_a
  | or_mhl
  | or_d8 (v : Byte)
  | cp_b
  | cp_c
  | cp_d
  | cp_e
  | cp_h
  | cp_l
  | cp_a
  | cp_mhl
  | cp_d8 (v : Byte)
  | add_hl_bc
  | add_hl_de
  | add_hl_hl
  | add_hl_sp
  | add_sp_e8 (e : Byte)
  | jp_a16 (a : Word)
  | jp_nz_a16 (a : Word)
  | jp_z_a16 (a : Word)
  | jp_nc_a16 (a : Word)
  | jp_c_a16 (a : Word)
  | ld_b_b
  | ld_b_c
  | ld_b_d
  | ld_b_e
  | ld_b_h
  | ld_b_l
  | ld_b_a
  | ld_c_b
  | ld_c_c
  | ld_c_d
  | ld_c_e
  | ld_c_h
  | ld_c_l
  | ld_c_a
  | ld_d_b
  | ld_d_c
  | ld_d_d
  | ld_d_e
  | ld_d_h
  | ld_d_l
  | ld_d_a
  | ld_e_b
  | ld_e_c
  | ld_e_d
  | ld_e_e
  | ld_e_h
  | ld_e_l
  | ld_e_a
  | ld_h_b
  | ld_h_c
  | ld_h_d
  | ld_h_e
  | ld_h_h
  | ld_h_l
  | ld_h_a
  | ld_l_b
  | ld_l_c
  | ld_l_d
  | ld_l_e
  | ld_l_h
  | ld_l_l
  | ld_l_a
  | ld_a_b
  | ld_a_c
  | ld_a_d
  | ld_a_e
  | ld_a_h
  | ld_a_l
  | ld_a_a
  | ld_b_mhl
  | ld_c_mhl
  | ld_d_mhl
  | ld_e_mhl
  | ld_h_mhl
  | ld_l_mhl
  | ld_a_mhl
  | ld_mhl_b
  | ld_mhl_c
  | ld_mhl_d
  | ld_mhl_e
  | ld_mhl_h
  | ld_mhl_l
  | ld_mhl_a
  | ld_b_d8 (v : Byte)
  | ld_c_d8 (v : Byte)
  | ld_d_d8 (v : Byte)
  | ld_e_d8 (v : Byte)
  | ld_h_d8 (v : Byte)
  | ld_l_d8 (v : Byte)
  | ld_a_d8 (v : Byte)
  | ld_mhl_d8 (v : Byte)
  | ld_mbc_a
  | ld_mde_a
  | ld_a_mbc
  | ld_a_mde
  | ld_mhli_a
  | ld_mhld_a
  | ld_a_mhli
  | ld_a_mhld
  | ld_ma16_a (a : Word)
  | ld_a_ma16 (a : Word)
  | ldh_ma8_a (v : Byte)
  | ldh_a_ma8 (v : Byte)
  | ld_mc_a
  | ld_a_mc
  | ld_bc_d16 (v : Word)
  | ld_de_d16 (v : Word)
  | ld_hl_d16 (v : Word)
  | ld_sp_d16 (v : Word)
  | ld_ma16_sp (a : Word)
  | ld_sp_hl
  | ld_hl_sp_e8 (e : Byte)
  | push_bc
  | push_de
  | push_hl
  | push_af
  | pop_bc
  | pop_de
  | pop_hl
  | pop_af
  | call_a16 (a : Word)
  | call_nz_a16 (a : Word)
  | call_z_a16 (a : Word)
  | call_nc_a16 (a : Word)
  | call_c_a16 (a : Word)
  | ret
  | ret_nz
  | ret_z
  | ret_nc
  | ret_c
  | prefix_cb (op : Byte)
  | unassigned_03
  | unassigned_04
  | unassigned_05
  | unassigned_07
  | unassigned_0b
  | unassigned_0c
  | unassigned_0d
  | unassigned_0f
  | unassigned_10
  | unassigned_13
  | unassigned_14
  | unassigned_15
  | unassigned_17
  | unassigned_18
  | unassigned_1b
  | unassigned_1c
  | unassigned_1d
  | unassigned_1f
  | unassigned_20
  | unassigned_23
  | unassigned_24
  | unassigned_25
  | unassigned_27
  | unassigned_28
  | unassigned_2b
  | unassigned_2c
  | unassigned_2d
  | unassigned_2f
  | unassigned_30
  | unassigned_33
  | unassigned_34
  | unassigned_35
  | unassigned_37
  | unassigned_38
  | unassigned_3b
  | unassigned_3c
  | unassigned_3d
  | unassigned_3f
  | unassigned_76
  | unassigned_c7
  | unassigned_cf
  | unassigned_d3
  | unassigned_d7
  | unassigned_d9
  | unassigned_db
  | unassigned_dd
  | unassigned_df
  | unassigned_e3
  | unassigned_e4
  | unassigned_e7
  | unassigned_e9
  | unassigned_eb
  | unassigned_ec
  | unassigned_ed
  | unassigned_ef
  | unassigned_f3
  | unassigned_f4
  | unassigned_f7
  | unassigned_fb
  | unassigned_fc
  | unassigned_fd
  | unassigned_ff
  deriving DecidableEq, Repr

end Sys2Proof
end

