-- ==== Sys2Proof/Machine/Operands.lean ====
section
/-! DEFINITION. Every operand form: registers and pair views (10_state.md R10, R13, R14), effective addresses and
post-adjustment (43_load8.md R160, R181), operand lengths (30_encoding.md R72), conditions (42_jump.md R150). -/

namespace Sys2Proof.Machine

/-- What a meaning answers. -/
abbrev Result := Host.Outcome State Fault Refusal

/-! ### Registers and pairs -/

/-- `r8[X]` (R10). -/
def State.reg (s : State) : Reg8 → Byte
  | .a => s.a
  | .b => s.b
  | .c => s.c
  | .d => s.d
  | .e => s.e
  | .h => s.h
  | .l => s.l

/-- `r8[X] <- v` (R10). -/
def State.setReg (s : State) (r : Reg8) (v : Byte) : State :=
  match r with
  | .a => { s with a := v }
  | .b => { s with b := v }
  | .c => { s with c := v }
  | .d => { s with d := v }
  | .e => { s with e := v }
  | .h => { s with h := v }
  | .l => { s with l := v }

/-- `r16[P]`: views, not storage, high byte first (R13). -/
def State.pair (s : State) : Pair → Word
  | .bc => mkWord s.b s.c
  | .de => mkWord s.d s.e
  | .hl => mkWord s.h s.l
  | .af => mkWord s.a s.f.pack

/-- `r16[P] <- v`: both halves written; for AF, bits 3 to 0 are ignored (R14). -/
def State.setPair (s : State) (p : Pair) (v : Word) : State :=
  match p with
  | .bc => { s with b := hiByte v, c := loByte v }
  | .de => { s with d := hiByte v, e := loByte v }
  | .hl => { s with h := hiByte v, l := loByte v }
  | .af => { s with a := hiByte v, f := Flags.unpack (loByte v) }

/-- Table rp: a pair, or SP (R75). -/
def State.rp (s : State) : Rp → Word
  | .bc => s.pair .bc
  | .de => s.pair .de
  | .hl => s.pair .hl
  | .sp => s.sp

/-- Writing through table rp (R200, R201). -/
def State.setRp (s : State) (rr : Rp) (v : Word) : State :=
  match rr with
  | .bc => s.setPair .bc v
  | .de => s.setPair .de v
  | .hl => s.setPair .hl v
  | .sp => { s with sp := v }

/-- Write A and the four flags from an ALU result (R101 to R121). -/
def State.setAF8 (s : State) (out : AluOut) : State := { s with a := out.res, f := out.flags }

/-! ### Memory operands -/

/-- The effective address of a memory operand (R78, R160), from the state before any adjustment of HL (R181). -/
def State.addrOf (s : State) : MemOp → Word
  | .hl => s.pair .hl
  | .bc => s.pair .bc
  | .de => s.pair .de
  | .hlInc => s.pair .hl
  | .hlDec => s.pair .hl
  | .direct a => a
  | .high v => highPage v
  | .highC => highPage s.c

/-- After the transfer, (HL+) and (HL-) change HL by one modulo 65,536 (R160, R181); other operands do nothing. -/
def State.adjustHL (s : State) : Option MemOp → State
  | some .hlInc => s.setPair .hl (s.pair .hl + 1)
  | some .hlDec => s.setPair .hl (s.pair .hl - 1)
  | _ => s

/-- The value of a source operand (R125, R160). -/
def State.readSrc (s : State) : Src → Byte
  | .reg r => s.reg r
  | .mem m => s.readByte (s.addrOf m)
  | .d8 v => v

/-- Put a byte where a target operand says (R160). -/
def State.writeDst (s : State) (dst : Dst) (v : Byte) : State :=
  match dst with
  | .reg r => s.setReg r v
  | .mem m => s.writeByte (s.addrOf m) v

end Sys2Proof.Machine

namespace Sys2Proof

/-- The memory operand of a source, if it is one. -/
def Src.memOp : Src → Option MemOp
  | .mem m => some m
  | _ => none

/-- The memory operand of a target, if it is one. -/
def Dst.memOp : Dst → Option MemOp
  | .mem m => some m
  | .reg _ => none

/-- The instruction length that a memory operand requires (R72): 1 through a register, 2 for a8, 3 for a16. -/
def MemOp.width : MemOp → Nat
  | .direct _ => 3
  | .high _ => 2
  | _ => 1

/-- The instruction length that a source requires (R72). -/
def Src.width : Src → Nat
  | .reg _ => 1
  | .mem m => m.width
  | .d8 _ => 2

/-- The instruction length that a target requires (R72). -/
def Dst.width : Dst → Nat
  | .reg _ => 1
  | .mem m => m.width

/-- `cond(cc)`: no condition reads the subtract or the half-carry flag (R150). -/
def Cond.holds (cc : Cond) (f : Machine.Flags) : Bool :=
  match cc with
  | .nz => !f.z
  | .z => f.z
  | .nc => !f.c
  | .c => f.c
  | .always => true

end Sys2Proof
end

