-- ==== Sys2Proof/Machine/Alu16.lean ====
section
/-! DEFINITION. ADD HL,rr and ADD SP,e8 (41_alu16.md). -/

namespace Sys2Proof.Machine

/-- ADD HL,rr: both operands are read before HL is written (R140). -/
def State.runAddHL (s : State) (rr : Rp) : State :=
  let out := add16 (s.pair .hl) (s.rp rr) s.f.z
  let s1 := s.setPair .hl out.res
  { s1 with f := out.flags }.advance 1

/-- ADD SP,e8 (R141). -/
def State.runAddSP (s : State) (e : Byte) : State :=
  let out := spOffset s.sp e
  { s with sp := out.res, f := out.flags }.advance 2

/-- ADD HL,BC (R140). -/
def exec_add_hl_bc (s : State) : Result :=
  .next (s.runAddHL .bc)

/-- ADD HL,DE (R140). -/
def exec_add_hl_de (s : State) : Result :=
  .next (s.runAddHL .de)

/-- ADD HL,HL (R140). -/
def exec_add_hl_hl (s : State) : Result :=
  .next (s.runAddHL .hl)

/-- ADD HL,SP (R140). -/
def exec_add_hl_sp (s : State) : Result :=
  .next (s.runAddHL .sp)

/-- ADD SP,e8 (R141). -/
def exec_add_sp_e8 (e : Byte) (s : State) : Result :=
  .next (s.runAddSP e)

end Sys2Proof.Machine
end

