-- ==== Sys2Proof/Machine/Alu8.lean ====
section
/-! DEFINITION. NOP and the 8-bit ALU instructions (40_nop_alu8.md). -/

namespace Sys2Proof.Machine

/-- NOP: nothing but the advance (R100). -/
def State.runNop (s : State) : State := s.advance 1

/-- An ALU operation on A and a byte: result and flags (R101 to R124). CP discards the result. -/
def State.alu (s : State) (op : AluOp) (v : Byte) : State :=
  match op with
  | .add => s.setAF8 (add8 s.a v false)
  | .adc => s.setAF8 (add8 s.a v s.f.c)
  | .sub => s.setAF8 (sub8 s.a v false)
  | .sbc => s.setAF8 (sub8 s.a v s.f.c)
  | .and => s.setAF8 (and8 s.a v)
  | .xor => s.setAF8 (xor8 s.a v)
  | .or => s.setAF8 (or8 s.a v)
  | .cp => { s with f := (sub8 s.a v false).flags }

/-- An ALU instruction: the operand is read once, before A or a flag is written (R125). -/
def State.runAlu (s : State) (op : AluOp) (src : Src) : State :=
  (s.alu op (s.readSrc src)).advance src.width

/-- NOP (R100). -/
def exec_nop (s : State) : Result :=
  .next s.runNop

/-- ADD A,B (R101). -/
def exec_add_a_b (s : State) : Result :=
  .next (s.runAlu .add (.reg .b))

/-- ADD A,C (R101). -/
def exec_add_a_c (s : State) : Result :=
  .next (s.runAlu .add (.reg .c))

/-- ADD A,D (R101). -/
def exec_add_a_d (s : State) : Result :=
  .next (s.runAlu .add (.reg .d))

/-- ADD A,E (R101). -/
def exec_add_a_e (s : State) : Result :=
  .next (s.runAlu .add (.reg .e))

/-- ADD A,H (R101). -/
def exec_add_a_h (s : State) : Result :=
  .next (s.runAlu .add (.reg .h))

/-- ADD A,L (R101). -/
def exec_add_a_l (s : State) : Result :=
  .next (s.runAlu .add (.reg .l))

/-- ADD A,A (R101). -/
def exec_add_a_a (s : State) : Result :=
  .next (s.runAlu .add (.reg .a))

/-- ADD A,(HL) (R102). -/
def exec_add_a_mhl (s : State) : Result :=
  .next (s.runAlu .add (.mem .hl))

/-- ADD A,d8 (R103). -/
def exec_add_a_d8 (v : Byte) (s : State) : Result :=
  .next (s.runAlu .add (.d8 v))

/-- ADC A,B (R104). -/
def exec_adc_a_b (s : State) : Result :=
  .next (s.runAlu .adc (.reg .b))

/-- ADC A,C (R104). -/
def exec_adc_a_c (s : State) : Result :=
  .next (s.runAlu .adc (.reg .c))

/-- ADC A,D (R104). -/
def exec_adc_a_d (s : State) : Result :=
  .next (s.runAlu .adc (.reg .d))

/-- ADC A,E (R104). -/
def exec_adc_a_e (s : State) : Result :=
  .next (s.runAlu .adc (.reg .e))

/-- ADC A,H (R104). -/
def exec_adc_a_h (s : State) : Result :=
  .next (s.runAlu .adc (.reg .h))

/-- ADC A,L (R104). -/
def exec_adc_a_l (s : State) : Result :=
  .next (s.runAlu .adc (.reg .l))

/-- ADC A,A (R104). -/
def exec_adc_a_a (s : State) : Result :=
  .next (s.runAlu .adc (.reg .a))

/-- ADC A,(HL) (R105). -/
def exec_adc_a_mhl (s : State) : Result :=
  .next (s.runAlu .adc (.mem .hl))

/-- ADC A,d8 (R106). -/
def exec_adc_a_d8 (v : Byte) (s : State) : Result :=
  .next (s.runAlu .adc (.d8 v))

/-- SUB B (R107). -/
def exec_sub_b (s : State) : Result :=
  .next (s.runAlu .sub (.reg .b))

/-- SUB C (R107). -/
def exec_sub_c (s : State) : Result :=
  .next (s.runAlu .sub (.reg .c))

/-- SUB D (R107). -/
def exec_sub_d (s : State) : Result :=
  .next (s.runAlu .sub (.reg .d))

/-- SUB E (R107). -/
def exec_sub_e (s : State) : Result :=
  .next (s.runAlu .sub (.reg .e))

/-- SUB H (R107). -/
def exec_sub_h (s : State) : Result :=
  .next (s.runAlu .sub (.reg .h))

/-- SUB L (R107). -/
def exec_sub_l (s : State) : Result :=
  .next (s.runAlu .sub (.reg .l))

/-- SUB A (R107). -/
def exec_sub_a (s : State) : Result :=
  .next (s.runAlu .sub (.reg .a))

/-- SUB (HL) (R108). -/
def exec_sub_mhl (s : State) : Result :=
  .next (s.runAlu .sub (.mem .hl))

/-- SUB d8 (R109). -/
def exec_sub_d8 (v : Byte) (s : State) : Result :=
  .next (s.runAlu .sub (.d8 v))

/-- SBC A,B (R110). -/
def exec_sbc_a_b (s : State) : Result :=
  .next (s.runAlu .sbc (.reg .b))

/-- SBC A,C (R110). -/
def exec_sbc_a_c (s : State) : Result :=
  .next (s.runAlu .sbc (.reg .c))

/-- SBC A,D (R110). -/
def exec_sbc_a_d (s : State) : Result :=
  .next (s.runAlu .sbc (.reg .d))

/-- SBC A,E (R110). -/
def exec_sbc_a_e (s : State) : Result :=
  .next (s.runAlu .sbc (.reg .e))

/-- SBC A,H (R110). -/
def exec_sbc_a_h (s : State) : Result :=
  .next (s.runAlu .sbc (.reg .h))

/-- SBC A,L (R110). -/
def exec_sbc_a_l (s : State) : Result :=
  .next (s.runAlu .sbc (.reg .l))

/-- SBC A,A (R110). -/
def exec_sbc_a_a (s : State) : Result :=
  .next (s.runAlu .sbc (.reg .a))

/-- SBC A,(HL) (R111). -/
def exec_sbc_a_mhl (s : State) : Result :=
  .next (s.runAlu .sbc (.mem .hl))

/-- SBC A,d8 (R112). -/
def exec_sbc_a_d8 (v : Byte) (s : State) : Result :=
  .next (s.runAlu .sbc (.d8 v))

/-- AND B (R113). -/
def exec_and_b (s : State) : Result :=
  .next (s.runAlu .and (.reg .b))

/-- AND C (R113). -/
def exec_and_c (s : State) : Result :=
  .next (s.runAlu .and (.reg .c))

/-- AND D (R113). -/
def exec_and_d (s : State) : Result :=
  .next (s.runAlu .and (.reg .d))

/-- AND E (R113). -/
def exec_and_e (s : State) : Result :=
  .next (s.runAlu .and (.reg .e))

/-- AND H (R113). -/
def exec_and_h (s : State) : Result :=
  .next (s.runAlu .and (.reg .h))

/-- AND L (R113). -/
def exec_and_l (s : State) : Result :=
  .next (s.runAlu .and (.reg .l))

/-- AND A (R113). -/
def exec_and_a (s : State) : Result :=
  .next (s.runAlu .and (.reg .a))

/-- AND (HL) (R114). -/
def exec_and_mhl (s : State) : Result :=
  .next (s.runAlu .and (.mem .hl))

/-- AND d8 (R115). -/
def exec_and_d8 (v : Byte) (s : State) : Result :=
  .next (s.runAlu .and (.d8 v))

/-- XOR B (R116). -/
def exec_xor_b (s : State) : Result :=
  .next (s.runAlu .xor (.reg .b))

/-- XOR C (R116). -/
def exec_xor_c (s : State) : Result :=
  .next (s.runAlu .xor (.reg .c))

/-- XOR D (R116). -/
def exec_xor_d (s : State) : Result :=
  .next (s.runAlu .xor (.reg .d))

/-- XOR E (R116). -/
def exec_xor_e (s : State) : Result :=
  .next (s.runAlu .xor (.reg .e))

/-- XOR H (R116). -/
def exec_xor_h (s : State) : Result :=
  .next (s.runAlu .xor (.reg .h))

/-- XOR L (R116). -/
def exec_xor_l (s : State) : Result :=
  .next (s.runAlu .xor (.reg .l))

/-- XOR A (R116). -/
def exec_xor_a (s : State) : Result :=
  .next (s.runAlu .xor (.reg .a))

/-- XOR (HL) (R117). -/
def exec_xor_mhl (s : State) : Result :=
  .next (s.runAlu .xor (.mem .hl))

/-- XOR d8 (R118). -/
def exec_xor_d8 (v : Byte) (s : State) : Result :=
  .next (s.runAlu .xor (.d8 v))

/-- OR B (R119). -/
def exec_or_b (s : State) : Result :=
  .next (s.runAlu .or (.reg .b))

/-- OR C (R119). -/
def exec_or_c (s : State) : Result :=
  .next (s.runAlu .or (.reg .c))

/-- OR D (R119). -/
def exec_or_d (s : State) : Result :=
  .next (s.runAlu .or (.reg .d))

/-- OR E (R119). -/
def exec_or_e (s : State) : Result :=
  .next (s.runAlu .or (.reg .e))

/-- OR H (R119). -/
def exec_or_h (s : State) : Result :=
  .next (s.runAlu .or (.reg .h))

/-- OR L (R119). -/
def exec_or_l (s : State) : Result :=
  .next (s.runAlu .or (.reg .l))

/-- OR A (R119). -/
def exec_or_a (s : State) : Result :=
  .next (s.runAlu .or (.reg .a))

/-- OR (HL) (R120). -/
def exec_or_mhl (s : State) : Result :=
  .next (s.runAlu .or (.mem .hl))

/-- OR d8 (R121). -/
def exec_or_d8 (v : Byte) (s : State) : Result :=
  .next (s.runAlu .or (.d8 v))

/-- CP B (R122). -/
def exec_cp_b (s : State) : Result :=
  .next (s.runAlu .cp (.reg .b))

/-- CP C (R122). -/
def exec_cp_c (s : State) : Result :=
  .next (s.runAlu .cp (.reg .c))

/-- CP D (R122). -/
def exec_cp_d (s : State) : Result :=
  .next (s.runAlu .cp (.reg .d))

/-- CP E (R122). -/
def exec_cp_e (s : State) : Result :=
  .next (s.runAlu .cp (.reg .e))

/-- CP H (R122). -/
def exec_cp_h (s : State) : Result :=
  .next (s.runAlu .cp (.reg .h))

/-- CP L (R122). -/
def exec_cp_l (s : State) : Result :=
  .next (s.runAlu .cp (.reg .l))

/-- CP A (R122). -/
def exec_cp_a (s : State) : Result :=
  .next (s.runAlu .cp (.reg .a))

/-- CP (HL) (R123). -/
def exec_cp_mhl (s : State) : Result :=
  .next (s.runAlu .cp (.mem .hl))

/-- CP d8 (R124). -/
def exec_cp_d8 (v : Byte) (s : State) : Result :=
  .next (s.runAlu .cp (.d8 v))

end Sys2Proof.Machine
end

