-- ==== Sys2Proof/Machine/CallRet.lean ====
section
/-! DEFINITION. CALL and RET (46_call_ret.md). -/

namespace Sys2Proof.Machine

/-- CALL: the target was read with the instruction, before the push (R59, R220, R221). -/
def State.runCall (s : State) (cc : Cond) (target : Word) : State :=
  if cc.holds s.f then { s.push16 (s.pc + 3) with pc := target } else s.advance 3

/-- RET (R222, R223). -/
def State.runRet (s : State) (cc : Cond) : State :=
  if cc.holds s.f then { s.pop16.2 with pc := s.pop16.1 } else s.advance 1

/-- CALL a16 (R220). -/
def exec_call_a16 (a : Word) (s : State) : Result :=
  .next (s.runCall .always a)

/-- CALL NZ,a16 (R221). -/
def exec_call_nz_a16 (a : Word) (s : State) : Result :=
  .next (s.runCall .nz a)

/-- CALL Z,a16 (R221). -/
def exec_call_z_a16 (a : Word) (s : State) : Result :=
  .next (s.runCall .z a)

/-- CALL NC,a16 (R221). -/
def exec_call_nc_a16 (a : Word) (s : State) : Result :=
  .next (s.runCall .nc a)

/-- CALL C,a16 (R221). -/
def exec_call_c_a16 (a : Word) (s : State) : Result :=
  .next (s.runCall .c a)

/-- RET (R222). -/
def exec_ret (s : State) : Result :=
  .next (s.runRet .always)

/-- RET NZ (R223). -/
def exec_ret_nz (s : State) : Result :=
  .next (s.runRet .nz)

/-- RET Z (R223). -/
def exec_ret_z (s : State) : Result :=
  .next (s.runRet .z)

/-- RET NC (R223). -/
def exec_ret_nc (s : State) : Result :=
  .next (s.runRet .nc)

/-- RET C (R223). -/
def exec_ret_c (s : State) : Result :=
  .next (s.runRet .c)

end Sys2Proof.Machine
end

