-- ==== Sys2Proof/Machine/Jump.lean ====
section
/-! DEFINITION. JP a16 and JP cc,a16 (42_jump.md). -/

namespace Sys2Proof.Machine

/-- Jump to the target if the condition holds, else past the three bytes (R151, R152). -/
def State.runJp (s : State) (cc : Cond) (target : Word) : State :=
  if cc.holds s.f then { s with pc := target } else s.advance 3

/-- JP a16 (R151). -/
def exec_jp_a16 (a : Word) (s : State) : Result :=
  .next (s.runJp .always a)

/-- JP NZ,a16 (R152). -/
def exec_jp_nz_a16 (a : Word) (s : State) : Result :=
  .next (s.runJp .nz a)

/-- JP Z,a16 (R152). -/
def exec_jp_z_a16 (a : Word) (s : State) : Result :=
  .next (s.runJp .z a)

/-- JP NC,a16 (R152). -/
def exec_jp_nc_a16 (a : Word) (s : State) : Result :=
  .next (s.runJp .nc a)

/-- JP C,a16 (R152). -/
def exec_jp_c_a16 (a : Word) (s : State) : Result :=
  .next (s.runJp .c a)

end Sys2Proof.Machine
end

