-- ==== Sys2Proof/Machine/Load16.lean ====
section
/-! DEFINITION. Word loads and stores (44_load16.md). -/

namespace Sys2Proof.Machine

/-- LD rr,d16 and LD SP,d16 (R200, R201). -/
def State.runLoadPair (s : State) (rr : Rp) (v : Word) : State := (s.setRp rr v).advance 3

/-- LD (a16),SP: the word-write primitive (R202). -/
def State.runStoreSP (s : State) (addr : Word) : State := (s.writeWord addr s.sp).advance 3

/-- LD SP,HL (R203). -/
def State.runLoadSPHL (s : State) : State := { s with sp := s.pair .hl }.advance 1

/-- LD HL,SP+e8: the one load that writes flags; SP is unmodified (R205). -/
def State.runLoadHLSP (s : State) (e : Byte) : State :=
  let out := spOffset s.sp e
  { s.setPair .hl out.res with f := out.flags }.advance 2

/-- LD BC,d16 (R200). -/
def exec_ld_bc_d16 (v : Word) (s : State) : Result :=
  .next (s.runLoadPair .bc v)

/-- LD DE,d16 (R200). -/
def exec_ld_de_d16 (v : Word) (s : State) : Result :=
  .next (s.runLoadPair .de v)

/-- LD HL,d16 (R200). -/
def exec_ld_hl_d16 (v : Word) (s : State) : Result :=
  .next (s.runLoadPair .hl v)

/-- LD SP,d16 (R201). -/
def exec_ld_sp_d16 (v : Word) (s : State) : Result :=
  .next (s.runLoadPair .sp v)

/-- LD (a16),SP (R202). -/
def exec_ld_ma16_sp (a : Word) (s : State) : Result :=
  .next (s.runStoreSP a)

/-- LD SP,HL (R203). -/
def exec_ld_sp_hl (s : State) : Result :=
  .next s.runLoadSPHL

/-- LD HL,SP+e8 (R205). -/
def exec_ld_hl_sp_e8 (e : Byte) (s : State) : Result :=
  .next (s.runLoadHLSP e)

end Sys2Proof.Machine
end

