-- ==== Sys2Proof/Machine/Load8.lean ====
section
/-! DEFINITION. Byte loads and stores (43_load8.md). -/

namespace Sys2Proof.Machine

/-- The byte-form load (R160): move one byte; then adjust HL if either side is (HL+) or (HL-); the length is the
maximum of what source and target require, never their sum. -/
def State.runLoad8 (s : State) (dst : Dst) (src : Src) : State :=
  let v := s.readSrc src
  let s1 := s.writeDst dst v
  let s2 := (s1.adjustHL dst.memOp).adjustHL src.memOp
  s2.advance (max dst.width src.width)

/-- LD B,B (R161). -/
def exec_ld_b_b (s : State) : Result :=
  .next (s.runLoad8 (.reg .b) (.reg .b))

/-- LD B,C (R161). -/
def exec_ld_b_c (s : State) : Result :=
  .next (s.runLoad8 (.reg .b) (.reg .c))

/-- LD B,D (R161). -/
def exec_ld_b_d (s : State) : Result :=
  .next (s.runLoad8 (.reg .b) (.reg .d))

/-- LD B,E (R161). -/
def exec_ld_b_e (s : State) : Result :=
  .next (s.runLoad8 (.reg .b) (.reg .e))

/-- LD B,H (R161). -/
def exec_ld_b_h (s : State) : Result :=
  .next (s.runLoad8 (.reg .b) (.reg .h))

/-- LD B,L (R161). -/
def exec_ld_b_l (s : State) : Result :=
  .next (s.runLoad8 (.reg .b) (.reg .l))

/-- LD B,A (R161). -/
def exec_ld_b_a (s : State) : Result :=
  .next (s.runLoad8 (.reg .b) (.reg .a))

/-- LD C,B (R161). -/
def exec_ld_c_b (s : State) : Result :=
  .next (s.runLoad8 (.reg .c) (.reg .b))

/-- LD C,C (R161). -/
def exec_ld_c_c (s : State) : Result :=
  .next (s.runLoad8 (.reg .c) (.reg .c))

/-- LD C,D (R161). -/
def exec_ld_c_d (s : State) : Result :=
  .next (s.runLoad8 (.reg .c) (.reg .d))

/-- LD C,E (R161). -/
def exec_ld_c_e (s : State) : Result :=
  .next (s.runLoad8 (.reg .c) (.reg .e))

/-- LD C,H (R161). -/
def exec_ld_c_h (s : State) : Result :=
  .next (s.runLoad8 (.reg .c) (.reg .h))

/-- LD C,L (R161). -/
def exec_ld_c_l (s : State) : Result :=
  .next (s.runLoad8 (.reg .c) (.reg .l))

/-- LD C,A (R161). -/
def exec_ld_c_a (s : State) : Result :=
  .next (s.runLoad8 (.reg .c) (.reg .a))

/-- LD D,B (R161). -/
def exec_ld_d_b (s : State) : Result :=
  .next (s.runLoad8 (.reg .d) (.reg .b))

/-- LD D,C (R161). -/
def exec_ld_d_c (s : State) : Result :=
  .next (s.runLoad8 (.reg .d) (.reg .c))

/-- LD D,D (R161). -/
def exec_ld_d_d (s : State) : Result :=
  .next (s.runLoad8 (.reg .d) (.reg .d))

/-- LD D,E (R161). -/
def exec_ld_d_e (s : State) : Result :=
  .next (s.runLoad8 (.reg .d) (.reg .e))

/-- LD D,H (R161). -/
def exec_ld_d_h (s : State) : Result :=
  .next (s.runLoad8 (.reg .d) (.reg .h))

/-- LD D,L (R161). -/
def exec_ld_d_l (s : State) : Result :=
  .next (s.runLoad8 (.reg .d) (.reg .l))

/-- LD D,A (R161). -/
def exec_ld_d_a (s : State) : Result :=
  .next (s.runLoad8 (.reg .d) (.reg .a))

/-- LD E,B (R161). -/
def exec_ld_e_b (s : State) : Result :=
  .next (s.runLoad8 (.reg .e) (.reg .b))

/-- LD E,C (R161). -/
def exec_ld_e_c (s : State) : Result :=
  .next (s.runLoad8 (.reg .e) (.reg .c))

/-- LD E,D (R161). -/
def exec_ld_e_d (s : State) : Result :=
  .next (s.runLoad8 (.reg .e) (.reg .d))

/-- LD E,E (R161). -/
def exec_ld_e_e (s : State) : Result :=
  .next (s.runLoad8 (.reg .e) (.reg .e))

/-- LD E,H (R161). -/
def exec_ld_e_h (s : State) : Result :=
  .next (s.runLoad8 (.reg .e) (.reg .h))

/-- LD E,L (R161). -/
def exec_ld_e_l (s : State) : Result :=
  .next (s.runLoad8 (.reg .e) (.reg .l))

/-- LD E,A (R161). -/
def exec_ld_e_a (s : State) : Result :=
  .next (s.runLoad8 (.reg .e) (.reg .a))

/-- LD H,B (R161). -/
def exec_ld_h_b (s : State) : Result :=
  .next (s.runLoad8 (.reg .h) (.reg .b))

/-- LD H,C (R161). -/
def exec_ld_h_c (s : State) : Result :=
  .next (s.runLoad8 (.reg .h) (.reg .c))

/-- LD H,D (R161). -/
def exec_ld_h_d (s : State) : Result :=
  .next (s.runLoad8 (.reg .h) (.reg .d))

/-- LD H,E (R161). -/
def exec_ld_h_e (s : State) : Result :=
  .next (s.runLoad8 (.reg .h) (.reg .e))

/-- LD H,H (R161). -/
def exec_ld_h_h (s : State) : Result :=
  .next (s.runLoad8 (.reg .h) (.reg .h))

/-- LD H,L (R161). -/
def exec_ld_h_l (s : State) : Result :=
  .next (s.runLoad8 (.reg .h) (.reg .l))

/-- LD H,A (R161). -/
def exec_ld_h_a (s : State) : Result :=
  .next (s.runLoad8 (.reg .h) (.reg .a))

/-- LD L,B (R161). -/
def exec_ld_l_b (s : State) : Result :=
  .next (s.runLoad8 (.reg .l) (.reg .b))

/-- LD L,C (R161). -/
def exec_ld_l_c (s : State) : Result :=
  .next (s.runLoad8 (.reg .l) (.reg .c))

/-- LD L,D (R161). -/
def exec_ld_l_d (s : State) : Result :=
  .next (s.runLoad8 (.reg .l) (.reg .d))

/-- LD L,E (R161). -/
def exec_ld_l_e (s : State) : Result :=
  .next (s.runLoad8 (.reg .l) (.reg .e))

/-- LD L,H (R161). -/
def exec_ld_l_h (s : State) : Result :=
  .next (s.runLoad8 (.reg .l) (.reg .h))

/-- LD L,L (R161). -/
def exec_ld_l_l (s : State) : Result :=
  .next (s.runLoad8 (.reg .l) (.reg .l))

/-- LD L,A (R161). -/
def exec_ld_l_a (s : State) : Result :=
  .next (s.runLoad8 (.reg .l) (.reg .a))

/-- LD A,B (R161). -/
def exec_ld_a_b (s : State) : Result :=
  .next (s.runLoad8 (.reg .a) (.reg .b))

/-- LD A,C (R161). -/
def exec_ld_a_c (s : State) : Result :=
  .next (s.runLoad8 (.reg .a) (.reg .c))

/-- LD A,D (R161). -/
def exec_ld_a_d (s : State) : Result :=
  .next (s.runLoad8 (.reg .a) (.reg .d))

/-- LD A,E (R161). -/
def exec_ld_a_e (s : State) : Result :=
  .next (s.runLoad8 (.reg .a) (.reg .e))

/-- LD A,H (R161). -/
def exec_ld_a_h (s : State) : Result :=
  .next (s.runLoad8 (.reg .a) (.reg .h))

/-- LD A,L (R161). -/
def exec_ld_a_l (s : State) : Result :=
  .next (s.runLoad8 (.reg .a) (.reg .l))

/-- LD A,A (R161). -/
def exec_ld_a_a (s : State) : Result :=
  .next (s.runLoad8 (.reg .a) (.reg .a))

/-- LD B,(HL) (R162). -/
def exec_ld_b_mhl (s : State) : Result :=
  .next (s.runLoad8 (.reg .b) (.mem .hl))

/-- LD C,(HL) (R162). -/
def exec_ld_c_mhl (s : State) : Result :=
  .next (s.runLoad8 (.reg .c) (.mem .hl))

/-- LD D,(HL) (R162). -/
def exec_ld_d_mhl (s : State) : Result :=
  .next (s.runLoad8 (.reg .d) (.mem .hl))

/-- LD E,(HL) (R162). -/
def exec_ld_e_mhl (s : State) : Result :=
  .next (s.runLoad8 (.reg .e) (.mem .hl))

/-- LD H,(HL) (R162). -/
def exec_ld_h_mhl (s : State) : Result :=
  .next (s.runLoad8 (.reg .h) (.mem .hl))

/-- LD L,(HL) (R162). -/
def exec_ld_l_mhl (s : State) : Result :=
  .next (s.runLoad8 (.reg .l) (.mem .hl))

/-- LD A,(HL) (R162). -/
def exec_ld_a_mhl (s : State) : Result :=
  .next (s.runLoad8 (.reg .a) (.mem .hl))

/-- LD (HL),B (R163). -/
def exec_ld_mhl_b (s : State) : Result :=
  .next (s.runLoad8 (.mem .hl) (.reg .b))

/-- LD (HL),C (R163). -/
def exec_ld_mhl_c (s : State) : Result :=
  .next (s.runLoad8 (.mem .hl) (.reg .c))

/-- LD (HL),D (R163). -/
def exec_ld_mhl_d (s : State) : Result :=
  .next (s.runLoad8 (.mem .hl) (.reg .d))

/-- LD (HL),E (R163). -/
def exec_ld_mhl_e (s : State) : Result :=
  .next (s.runLoad8 (.mem .hl) (.reg .e))

/-- LD (HL),H (R163). -/
def exec_ld_mhl_h (s : State) : Result :=
  .next (s.runLoad8 (.mem .hl) (.reg .h))

/-- LD (HL),L (R163). -/
def exec_ld_mhl_l (s : State) : Result :=
  .next (s.runLoad8 (.mem .hl) (.reg .l))

/-- LD (HL),A (R163). -/
def exec_ld_mhl_a (s : State) : Result :=
  .next (s.runLoad8 (.mem .hl) (.reg .a))

/-- LD B,d8 (R164). -/
def exec_ld_b_d8 (v : Byte) (s : State) : Result :=
  .next (s.runLoad8 (.reg .b) (.d8 v))

/-- LD C,d8 (R164). -/
def exec_ld_c_d8 (v : Byte) (s : State) : Result :=
  .next (s.runLoad8 (.reg .c) (.d8 v))

/-- LD D,d8 (R164). -/
def exec_ld_d_d8 (v : Byte) (s : State) : Result :=
  .next (s.runLoad8 (.reg .d) (.d8 v))

/-- LD E,d8 (R164). -/
def exec_ld_e_d8 (v : Byte) (s : State) : Result :=
  .next (s.runLoad8 (.reg .e) (.d8 v))

/-- LD H,d8 (R164). -/
def exec_ld_h_d8 (v : Byte) (s : State) : Result :=
  .next (s.runLoad8 (.reg .h) (.d8 v))

/-- LD L,d8 (R164). -/
def exec_ld_l_d8 (v : Byte) (s : State) : Result :=
  .next (s.runLoad8 (.reg .l) (.d8 v))

/-- LD A,d8 (R164). -/
def exec_ld_a_d8 (v : Byte) (s : State) : Result :=
  .next (s.runLoad8 (.reg .a) (.d8 v))

/-- LD (HL),d8 (R165). -/
def exec_ld_mhl_d8 (v : Byte) (s : State) : Result :=
  .next (s.runLoad8 (.mem .hl) (.d8 v))

/-- LD (BC),A (R166). -/
def exec_ld_mbc_a (s : State) : Result :=
  .next (s.runLoad8 (.mem .bc) (.reg .a))

/-- LD (DE),A (R167). -/
def exec_ld_mde_a (s : State) : Result :=
  .next (s.runLoad8 (.mem .de) (.reg .a))

/-- LD A,(BC) (R168). -/
def exec_ld_a_mbc (s : State) : Result :=
  .next (s.runLoad8 (.reg .a) (.mem .bc))

/-- LD A,(DE) (R169). -/
def exec_ld_a_mde (s : State) : Result :=
  .next (s.runLoad8 (.reg .a) (.mem .de))

/-- LD (HL+),A (R170). -/
def exec_ld_mhli_a (s : State) : Result :=
  .next (s.runLoad8 (.mem .hlInc) (.reg .a))

/-- LD (HL-),A (R171). -/
def exec_ld_mhld_a (s : State) : Result :=
  .next (s.runLoad8 (.mem .hlDec) (.reg .a))

/-- LD A,(HL+) (R172). -/
def exec_ld_a_mhli (s : State) : Result :=
  .next (s.runLoad8 (.reg .a) (.mem .hlInc))

/-- LD A,(HL-) (R173). -/
def exec_ld_a_mhld (s : State) : Result :=
  .next (s.runLoad8 (.reg .a) (.mem .hlDec))

/-- LD (a16),A (R174). -/
def exec_ld_ma16_a (a : Word) (s : State) : Result :=
  .next (s.runLoad8 (.mem (.direct a)) (.reg .a))

/-- LD A,(a16) (R175). -/
def exec_ld_a_ma16 (a : Word) (s : State) : Result :=
  .next (s.runLoad8 (.reg .a) (.mem (.direct a)))

/-- LDH (a8),A (R176). -/
def exec_ldh_ma8_a (v : Byte) (s : State) : Result :=
  .next (s.runLoad8 (.mem (.high v)) (.reg .a))

/-- LDH A,(a8) (R177). -/
def exec_ldh_a_ma8 (v : Byte) (s : State) : Result :=
  .next (s.runLoad8 (.reg .a) (.mem (.high v)))

/-- LD (C),A (R178). -/
def exec_ld_mc_a (s : State) : Result :=
  .next (s.runLoad8 (.mem .highC) (.reg .a))

/-- LD A,(C) (R179). -/
def exec_ld_a_mc (s : State) : Result :=
  .next (s.runLoad8 (.reg .a) (.mem .highC))

end Sys2Proof.Machine
end

