-- ==== Sys2Proof/Machine/Stack.lean ====
section
/-! DEFINITION. PUSH and POP (45_stack.md). -/

namespace Sys2Proof.Machine

/-- PUSH (R210); of AF, A and the packed flags byte (R211). -/
def State.runPush (s : State) (p : Pair) : State := (s.push16 (s.pair p)).advance 1

/-- POP (R213); of AF, bits 3 to 0 of the popped flags byte are ignored (R214). -/
def State.runPop (s : State) (p : Pair) : State := (s.pop16.2.setPair p s.pop16.1).advance 1

/-- PUSH BC (R210). -/
def exec_push_bc (s : State) : Result :=
  .next (s.runPush .bc)

/-- PUSH DE (R210). -/
def exec_push_de (s : State) : Result :=
  .next (s.runPush .de)

/-- PUSH HL (R210). -/
def exec_push_hl (s : State) : Result :=
  .next (s.runPush .hl)

/-- PUSH AF (R211). -/
def exec_push_af (s : State) : Result :=
  .next (s.runPush .af)

/-- POP BC (R213). -/
def exec_pop_bc (s : State) : Result :=
  .next (s.runPop .bc)

/-- POP DE (R213). -/
def exec_pop_de (s : State) : Result :=
  .next (s.runPop .de)

/-- POP HL (R213). -/
def exec_pop_hl (s : State) : Result :=
  .next (s.runPop .hl)

/-- POP AF (R214). -/
def exec_pop_af (s : State) : Result :=
  .next (s.runPop .af)

end Sys2Proof.Machine
end

