-- ==== Sys2Proof/Machine/Unassigned.lean ====
section
/-! DEFINITION. The prefix escape and the 62 unassigned bytes: each takes the fatal condition UnknownOpcode
(30_encoding.md R86, R87; 60_exceptions.md R240, R243, R245). The next state is a Faulted one, from which `step`
stops. -/

namespace Sys2Proof.Machine

/-- The prefix escape 0xCB and the byte after it (R87, R240). -/
def exec_prefix_cb (op : Byte) (s : State) : Result :=
  .next (s.raise (.unknownOpcode op true))

/-- The unassigned byte 0x03 (R86, R240). -/
def exec_unassigned_03 (s : State) : Result :=
  .next (s.raise (.unknownOpcode 0x03 false))

/-- The unassigned byte 0x04 (R86, R240). -/
def exec_unassigned_04 (s : State) : Result :=
  .next (s.raise (.unknownOpcode 0x04 false))

/-- The unassigned byte 0x05 (R86, R240). -/
def exec_unassigned_05 (s : State) : Result :=
  .next (s.raise (.unknownOpcode 0x05 false))

/-- The unassigned byte 0x07 (R86, R240). -/
def exec_unassigned_07 (s : State) : Result :=
  .next (s.raise (.unknownOpcode 0x07 false))

/-- The unassigned byte 0x0B (R86, R240). -/
def exec_unassigned_0b (s : State) : Result :=
  .next (s.raise (.unknownOpcode 0x0B false))

/-- The unassigned byte 0x0C (R86, R240). -/
def exec_unassigned_0c (s : State) : Result :=
  .next (s.raise (.unknownOpcode 0x0C false))

/-- The unassigned byte 0x0D (R86, R240). -/
def exec_unassigned_0d (s : State) : Result :=
  .next (s.raise (.unknownOpcode 0x0D false))

/-- The unassigned byte 0x0F (R86, R240). -/
def exec_unassigned_0f (s : State) : Result :=
  .next (s.raise (.unknownOpcode 0x0F false))

/-- The unassigned byte 0x10 (R86, R240). -/
def exec_unassigned_10 (s : State) : Result :=
  .next (s.raise (.unknownOpcode 0x10 false))

/-- The unassigned byte 0x13 (R86, R240). -/
def exec_unassigned_13 (s : State) : Result :=
  .next (s.raise (.unknownOpcode 0x13 false))

/-- The unassigned byte 0x14 (R86, R240). -/
def exec_unassigned_14 (s : State) : Result :=
  .next (s.raise (.unknownOpcode 0x14 false))

/-- The unassigned byte 0x15 (R86, R240). -/
def exec_unassigned_15 (s : State) : Result :=
  .next (s.raise (.unknownOpcode 0x15 false))

/-- The unassigned byte 0x17 (R86, R240). -/
def exec_unassigned_17 (s : State) : Result :=
  .next (s.raise (.unknownOpcode 0x17 false))

/-- The unassigned byte 0x18 (R86, R240). -/
def exec_unassigned_18 (s : State) : Result :=
  .next (s.raise (.unknownOpcode 0x18 false))

/-- The unassigned byte 0x1B (R86, R240). -/
def exec_unassigned_1b (s : State) : Result :=
  .next (s.raise (.unknownOpcode 0x1B false))

/-- The unassigned byte 0x1C (R86, R240). -/
def exec_unassigned_1c (s : State) : Result :=
  .next (s.raise (.unknownOpcode 0x1C false))

/-- The unassigned byte 0x1D (R86, R240). -/
def exec_unassigned_1d (s : State) : Result :=
  .next (s.raise (.unknownOpcode 0x1D false))

/-- The unassigned byte 0x1F (R86, R240). -/
def exec_unassigned_1f (s : State) : Result :=
  .next (s.raise (.unknownOpcode 0x1F false))

/-- The unassigned byte 0x20 (R86, R240). -/
def exec_unassigned_20 (s : State) : Result :=
  .next (s.raise (.unknownOpcode 0x20 false))

/-- The unassigned byte 0x23 (R86, R240). -/
def exec_unassigned_23 (s : State) : Result :=
  .next (s.raise (.unknownOpcode 0x23 false))

/-- The unassigned byte 0x24 (R86, R240). -/
def exec_unassigned_24 (s : State) : Result :=
  .next (s.raise (.unknownOpcode 0x24 false))

/-- The unassigned byte 0x25 (R86, R240). -/
def exec_unassigned_25 (s : State) : Result :=
  .next (s.raise (.unknownOpcode 0x25 false))

/-- The unassigned byte 0x27 (R86, R240). -/
def exec_unassigned_27 (s : State) : Result :=
  .next (s.raise (.unknownOpcode 0x27 false))

/-- The unassigned byte 0x28 (R86, R240). -/
def exec_unassigned_28 (s : State) : Result :=
  .next (s.raise (.unknownOpcode 0x28 false))

/-- The unassigned byte 0x2B (R86, R240). -/
def exec_unassigned_2b (s : State) : Result :=
  .next (s.raise (.unknownOpcode 0x2B false))

/-- The unassigned byte 0x2C (R86, R240). -/
def exec_unassigned_2c (s : State) : Result :=
  .next (s.raise (.unknownOpcode 0x2C false))

/-- The unassigned byte 0x2D (R86, R240). -/
def exec_unassigned_2d (s : State) : Result :=
  .next (s.raise (.unknownOpcode 0x2D false))

/-- The unassigned byte 0x2F (R86, R240). -/
def exec_unassigned_2f (s : State) : Result :=
  .next (s.raise (.unknownOpcode 0x2F false))

/-- The unassigned byte 0x30 (R86, R240). -/
def exec_unassigned_30 (s : State) : Result :=
  .next (s.raise (.unknownOpcode 0x30 false))

/-- The unassigned byte 0x33 (R86, R240). -/
def exec_unassigned_33 (s : State) : Result :=
  .next (s.raise (.unknownOpcode 0x33 false))

/-- The unassigned byte 0x34 (R86, R240). -/
def exec_unassigned_34 (s : State) : Result :=
  .next (s.raise (.unknownOpcode 0x34 false))

/-- The unassigned byte 0x35 (R86, R240). -/
def exec_unassigned_35 (s : State) : Result :=
  .next (s.raise (.unknownOpcode 0x35 false))

/-- The unassigned byte 0x37 (R86, R240). -/
def exec_unassigned_37 (s : State) : Result :=
  .next (s.raise (.unknownOpcode 0x37 false))

/-- The unassigned byte 0x38 (R86, R240). -/
def exec_unassigned_38 (s : State) : Result :=
  .next (s.raise (.unknownOpcode 0x38 false))

/-- The unassigned byte 0x3B (R86, R240). -/
def exec_unassigned_3b (s : State) : Result :=
  .next (s.raise (.unknownOpcode 0x3B false))

/-- The unassigned byte 0x3C (R86, R240). -/
def exec_unassigned_3c (s : State) : Result :=
  .next (s.raise (.unknownOpcode 0x3C false))

/-- The unassigned byte 0x3D (R86, R240). -/
def exec_unassigned_3d (s : State) : Result :=
  .next (s.raise (.unknownOpcode 0x3D false))

/-- The unassigned byte 0x3F (R86, R240). -/
def exec_unassigned_3f (s : State) : Result :=
  .next (s.raise (.unknownOpcode 0x3F false))

/-- The unassigned byte 0x76 (R86, R240). -/
def exec_unassigned_76 (s : State) : Result :=
  .next (s.raise (.unknownOpcode 0x76 false))

/-- The unassigned byte 0xC7 (R86, R240). -/
def exec_unassigned_c7 (s : State) : Result :=
  .next (s.raise (.unknownOpcode 0xC7 false))

/-- The unassigned byte 0xCF (R86, R240). -/
def exec_unassigned_cf (s : State) : Result :=
  .next (s.raise (.unknownOpcode 0xCF false))

/-- The unassigned byte 0xD3 (R86, R240). -/
def exec_unassigned_d3 (s : State) : Result :=
  .next (s.raise (.unknownOpcode 0xD3 false))

/-- The unassigned byte 0xD7 (R86, R240). -/
def exec_unassigned_d7 (s : State) : Result :=
  .next (s.raise (.unknownOpcode 0xD7 false))

/-- The unassigned byte 0xD9 (R86, R240). -/
def exec_unassigned_d9 (s : State) : Result :=
  .next (s.raise (.unknownOpcode 0xD9 false))

/-- The unassigned byte 0xDB (R86, R240). -/
def exec_unassigned_db (s : State) : Result :=
  .next (s.raise (.unknownOpcode 0xDB false))

/-- The unassigned byte 0xDD (R86, R240). -/
def exec_unassigned_dd (s : State) : Result :=
  .next (s.raise (.unknownOpcode 0xDD false))

/-- The unassigned byte 0xDF (R86, R240). -/
def exec_unassigned_df (s : State) : Result :=
  .next (s.raise (.unknownOpcode 0xDF false))

/-- The unassigned byte 0xE3 (R86, R240). -/
def exec_unassigned_e3 (s : State) : Result :=
  .next (s.raise (.unknownOpcode 0xE3 false))

/-- The unassigned byte 0xE4 (R86, R240). -/
def exec_unassigned_e4 (s : State) : Result :=
  .next (s.raise (.unknownOpcode 0xE4 false))

/-- The unassigned byte 0xE7 (R86, R240). -/
def exec_unassigned_e7 (s : State) : Result :=
  .next (s.raise (.unknownOpcode 0xE7 false))

/-- The unassigned byte 0xE9 (R86, R240). -/
def exec_unassigned_e9 (s : State) : Result :=
  .next (s.raise (.unknownOpcode 0xE9 false))

/-- The unassigned byte 0xEB (R86, R240). -/
def exec_unassigned_eb (s : State) : Result :=
  .next (s.raise (.unknownOpcode 0xEB false))

/-- The unassigned byte 0xEC (R86, R240). -/
def exec_unassigned_ec (s : State) : Result :=
  .next (s.raise (.unknownOpcode 0xEC false))

/-- The unassigned byte 0xED (R86, R240). -/
def exec_unassigned_ed (s : State) : Result :=
  .next (s.raise (.unknownOpcode 0xED false))

/-- The unassigned byte 0xEF (R86, R240). -/
def exec_unassigned_ef (s : State) : Result :=
  .next (s.raise (.unknownOpcode 0xEF false))

/-- The unassigned byte 0xF3 (R86, R240). -/
def exec_unassigned_f3 (s : State) : Result :=
  .next (s.raise (.unknownOpcode 0xF3 false))

/-- The unassigned byte 0xF4 (R86, R240). -/
def exec_unassigned_f4 (s : State) : Result :=
  .next (s.raise (.unknownOpcode 0xF4 false))

/-- The unassigned byte 0xF7 (R86, R240). -/
def exec_unassigned_f7 (s : State) : Result :=
  .next (s.raise (.unknownOpcode 0xF7 false))

/-- The unassigned byte 0xFB (R86, R240). -/
def exec_unassigned_fb (s : State) : Result :=
  .next (s.raise (.unknownOpcode 0xFB false))

/-- The unassigned byte 0xFC (R86, R240). -/
def exec_unassigned_fc (s : State) : Result :=
  .next (s.raise (.unknownOpcode 0xFC false))

/-- The unassigned byte 0xFD (R86, R240). -/
def exec_unassigned_fd (s : State) : Result :=
  .next (s.raise (.unknownOpcode 0xFD false))

/-- The unassigned byte 0xFF (R86, R240). -/
def exec_unassigned_ff (s : State) : Result :=
  .next (s.raise (.unknownOpcode 0xFF false))

end Sys2Proof.Machine
end

