-- ==== Sys2Proof/Machine/Dispatch.lean ====
section
/-! DEFINITION. Execution: one direct call of a meaning per constructor of Instr. -/

namespace Sys2Proof.Machine

def exec (i : Instr) (s : State) : Host.Outcome State Fault Refusal :=
  match i with
  | .nop => Sys2Proof.Machine.exec_nop s
  | .add_a_b => Sys2Proof.Machine.exec_add_a_b s
  | .add_a_c => Sys2Proof.Machine.exec_add_a_c s
  | .add_a_d => Sys2Proof.Machine.exec_add_a_d s
  | .add_a_e => Sys2Proof.Machine.exec_add_a_e s
  | .add_a_h => Sys2Proof.Machine.exec_add_a_h s
  | .add_a_l => Sys2Proof.Machine.exec_add_a_l s
  | .add_a_a => Sys2Proof.Machine.exec_add_a_a s
  | .add_a_mhl => Sys2Proof.Machine.exec_add_a_mhl s
  | .add_a_d8 v => Sys2Proof.Machine.exec_add_a_d8 v s
  | .adc_a_b => Sys2Proof.Machine.exec_adc_a_b s
  | .adc_a_c => Sys2Proof.Machine.exec_adc_a_c s
  | .adc_a_d => Sys2Proof.Machine.exec_adc_a_d s
  | .adc_a_e => Sys2Proof.Machine.exec_adc_a_e s
  | .adc_a_h => Sys2Proof.Machine.exec_adc_a_h s
  | .adc_a_l => Sys2Proof.Machine.exec_adc_a_l s
  | .adc_a_a => Sys2Proof.Machine.exec_adc_a_a s
  | .adc_a_mhl => Sys2Proof.Machine.exec_adc_a_mhl s
  | .adc_a_d8 v => Sys2Proof.Machine.exec_adc_a_d8 v s
  | .sub_b => Sys2Proof.Machine.exec_sub_b s
  | .sub_c => Sys2Proof.Machine.exec_sub_c s
  | .sub_d => Sys2Proof.Machine.exec_sub_d s
  | .sub_e => Sys2Proof.Machine.exec_sub_e s
  | .sub_h => Sys2Proof.Machine.exec_sub_h s
  | .sub_l => Sys2Proof.Machine.exec_sub_l s
  | .sub_a => Sys2Proof.Machine.exec_sub_a s
  | .sub_mhl => Sys2Proof.Machine.exec_sub_mhl s
  | .sub_d8 v => Sys2Proof.Machine.exec_sub_d8 v s
  | .sbc_a_b => Sys2Proof.Machine.exec_sbc_a_b s
  | .sbc_a_c => Sys2Proof.Machine.exec_sbc_a_c s
  | .sbc_a_d => Sys2Proof.Machine.exec_sbc_a_d s
  | .sbc_a_e => Sys2Proof.Machine.exec_sbc_a_e s
  | .sbc_a_h => Sys2Proof.Machine.exec_sbc_a_h s
  | .sbc_a_l => Sys2Proof.Machine.exec_sbc_a_l s
  | .sbc_a_a => Sys2Proof.Machine.exec_sbc_a_a s
  | .sbc_a_mhl => Sys2Proof.Machine.exec_sbc_a_mhl s
  | .sbc_a_d8 v => Sys2Proof.Machine.exec_sbc_a_d8 v s
  | .and_b => Sys2Proof.Machine.exec_and_b s
  | .and_c => Sys2Proof.Machine.exec_and_c s
  | .and_d => Sys2Proof.Machine.exec_and_d s
  | .and_e => Sys2Proof.Machine.exec_and_e s
  | .and_h => Sys2Proof.Machine.exec_and_h s
  | .and_l => Sys2Proof.Machine.exec_and_l s
  | .and_a => Sys2Proof.Machine.exec_and_a s
  | .and_mhl => Sys2Proof.Machine.exec_and_mhl s
  | .and_d8 v => Sys2Proof.Machine.exec_and_d8 v s
  | .xor_b => Sys2Proof.Machine.exec_xor_b s
  | .xor_c => Sys2Proof.Machine.exec_xor_c s
  | .xor_d => Sys2Proof.Machine.exec_xor_d s
  | .xor_e => Sys2Proof.Machine.exec_xor_e s
  | .xor_h => Sys2Proof.Machine.exec_xor_h s
  | .xor_l => Sys2Proof.Machine.exec_xor_l s
  | .xor_a => Sys2Proof.Machine.exec_xor_a s
  | .xor_mhl => Sys2Proof.Machine.exec_xor_mhl s
  | .xor_d8 v => Sys2Proof.Machine.exec_xor_d8 v s
  | .or_b => Sys2Proof.Machine.exec_or_b s
  | .or_c => Sys2Proof.Machine.exec_or_c s
  | .or_d => Sys2Proof.Machine.exec_or_d s
  | .or_e => Sys2Proof.Machine.exec_or_e s
  | .or_h => Sys2Proof.Machine.exec_or_h s
  | .or_l => Sys2Proof.Machine.exec_or_l s
  | .or_a => Sys2Proof.Machine.exec_or_a s
  | .or_mhl => Sys2Proof.Machine.exec_or_mhl s
  | .or_d8 v => Sys2Proof.Machine.exec_or_d8 v s
  | .cp_b => Sys2Proof.Machine.exec_cp_b s
  | .cp_c => Sys2Proof.Machine.exec_cp_c s
  | .cp_d => Sys2Proof.Machine.exec_cp_d s
  | .cp_e => Sys2Proof.Machine.exec_cp_e s
  | .cp_h => Sys2Proof.Machine.exec_cp_h s
  | .cp_l => Sys2Proof.Machine.exec_cp_l s
  | .cp_a => Sys2Proof.Machine.exec_cp_a s
  | .cp_mhl => Sys2Proof.Machine.exec_cp_mhl s
  | .cp_d8 v => Sys2Proof.Machine.exec_cp_d8 v s
  | .add_hl_bc => Sys2Proof.Machine.exec_add_hl_bc s
  | .add_hl_de => Sys2Proof.Machine.exec_add_hl_de s
  | .add_hl_hl => Sys2Proof.Machine.exec_add_hl_hl s
  | .add_hl_sp => Sys2Proof.Machine.exec_add_hl_sp s
  | .add_sp_e8 e => Sys2Proof.Machine.exec_add_sp_e8 e s
  | .jp_a16 a => Sys2Proof.Machine.exec_jp_a16 a s
  | .jp_nz_a16 a => Sys2Proof.Machine.exec_jp_nz_a16 a s
  | .jp_z_a16 a => Sys2Proof.Machine.exec_jp_z_a16 a s
  | .jp_nc_a16 a => Sys2Proof.Machine.exec_jp_nc_a16 a s
  | .jp_c_a16 a => Sys2Proof.Machine.exec_jp_c_a16 a s
  | .ld_b_b => Sys2Proof.Machine.exec_ld_b_b s
  | .ld_b_c => Sys2Proof.Machine.exec_ld_b_c s
  | .ld_b_d => Sys2Proof.Machine.exec_ld_b_d s
  | .ld_b_e => Sys2Proof.Machine.exec_ld_b_e s
  | .ld_b_h => Sys2Proof.Machine.exec_ld_b_h s
  | .ld_b_l => Sys2Proof.Machine.exec_ld_b_l s
  | .ld_b_a => Sys2Proof.Machine.exec_ld_b_a s
  | .ld_c_b => Sys2Proof.Machine.exec_ld_c_b s
  | .ld_c_c => Sys2Proof.Machine.exec_ld_c_c s
  | .ld_c_d => Sys2Proof.Machine.exec_ld_c_d s
  | .ld_c_e => Sys2Proof.Machine.exec_ld_c_e s
  | .ld_c_h => Sys2Proof.Machine.exec_ld_c_h s
  | .ld_c_l => Sys2Proof.Machine.exec_ld_c_l s
  | .ld_c_a => Sys2Proof.Machine.exec_ld_c_a s
  | .ld_d_b => Sys2Proof.Machine.exec_ld_d_b s
  | .ld_d_c => Sys2Proof.Machine.exec_ld_d_c s
  | .ld_d_d => Sys2Proof.Machine.exec_ld_d_d s
  | .ld_d_e => Sys2Proof.Machine.exec_ld_d_e s
  | .ld_d_h => Sys2Proof.Machine.exec_ld_d_h s
  | .ld_d_l => Sys2Proof.Machine.exec_ld_d_l s
  | .ld_d_a => Sys2Proof.Machine.exec_ld_d_a s
  | .ld_e_b => Sys2Proof.Machine.exec_ld_e_b s
  | .ld_e_c => Sys2Proof.Machine.exec_ld_e_c s
  | .ld_e_d => Sys2Proof.Machine.exec_ld_e_d s
  | .ld_e_e => Sys2Proof.Machine.exec_ld_e_e s
  | .ld_e_h => Sys2Proof.Machine.exec_ld_e_h s
  | .ld_e_l => Sys2Proof.Machine.exec_ld_e_l s
  | .ld_e_a => Sys2Proof.Machine.exec_ld_e_a s
  | .ld_h_b => Sys2Proof.Machine.exec_ld_h_b s
  | .ld_h_c => Sys2Proof.Machine.exec_ld_h_c s
  | .ld_h_d => Sys2Proof.Machine.exec_ld_h_d s
  | .ld_h_e => Sys2Proof.Machine.exec_ld_h_e s
  | .ld_h_h => Sys2Proof.Machine.exec_ld_h_h s
  | .ld_h_l => Sys2Proof.Machine.exec_ld_h_l s
  | .ld_h_a => Sys2Proof.Machine.exec_ld_h_a s
  | .ld_l_b => Sys2Proof.Machine.exec_ld_l_b s
  | .ld_l_c => Sys2Proof.Machine.exec_ld_l_c s
  | .ld_l_d => Sys2Proof.Machine.exec_ld_l_d s
  | .ld_l_e => Sys2Proof.Machine.exec_ld_l_e s
  | .ld_l_h => Sys2Proof.Machine.exec_ld_l_h s
  | .ld_l_l => Sys2Proof.Machine.exec_ld_l_l s
  | .ld_l_a => Sys2Proof.Machine.exec_ld_l_a s
  | .ld_a_b => Sys2Proof.Machine.exec_ld_a_b s
  | .ld_a_c => Sys2Proof.Machine.exec_ld_a_c s
  | .ld_a_d => Sys2Proof.Machine.exec_ld_a_d s
  | .ld_a_e => Sys2Proof.Machine.exec_ld_a_e s
  | .ld_a_h => Sys2Proof.Machine.exec_ld_a_h s
  | .ld_a_l => Sys2Proof.Machine.exec_ld_a_l s
  | .ld_a_a => Sys2Proof.Machine.exec_ld_a_a s
  | .ld_b_mhl => Sys2Proof.Machine.exec_ld_b_mhl s
  | .ld_c_mhl => Sys2Proof.Machine.exec_ld_c_mhl s
  | .ld_d_mhl => Sys2Proof.Machine.exec_ld_d_mhl s
  | .ld_e_mhl => Sys2Proof.Machine.exec_ld_e_mhl s
  | .ld_h_mhl => Sys2Proof.Machine.exec_ld_h_mhl s
  | .ld_l_mhl => Sys2Proof.Machine.exec_ld_l_mhl s
  | .ld_a_mhl => Sys2Proof.Machine.exec_ld_a_mhl s
  | .ld_mhl_b => Sys2Proof.Machine.exec_ld_mhl_b s
  | .ld_mhl_c => Sys2Proof.Machine.exec_ld_mhl_c s
  | .ld_mhl_d => Sys2Proof.Machine.exec_ld_mhl_d s
  | .ld_mhl_e => Sys2Proof.Machine.exec_ld_mhl_e s
  | .ld_mhl_h => Sys2Proof.Machine.exec_ld_mhl_h s
  | .ld_mhl_l => Sys2Proof.Machine.exec_ld_mhl_l s
  | .ld_mhl_a => Sys2Proof.Machine.exec_ld_mhl_a s
  | .ld_b_d8 v => Sys2Proof.Machine.exec_ld_b_d8 v s
  | .ld_c_d8 v => Sys2Proof.Machine.exec_ld_c_d8 v s
  | .ld_d_d8 v => Sys2Proof.Machine.exec_ld_d_d8 v s
  | .ld_e_d8 v => Sys2Proof.Machine.exec_ld_e_d8 v s
  | .ld_h_d8 v => Sys2Proof.Machine.exec_ld_h_d8 v s
  | .ld_l_d8 v => Sys2Proof.Machine.exec_ld_l_d8 v s
  | .ld_a_d8 v => Sys2Proof.Machine.exec_ld_a_d8 v s
  | .ld_mhl_d8 v => Sys2Proof.Machine.exec_ld_mhl_d8 v s
  | .ld_mbc_a => Sys2Proof.Machine.exec_ld_mbc_a s
  | .ld_mde_a => Sys2Proof.Machine.exec_ld_mde_a s
  | .ld_a_mbc => Sys2Proof.Machine.exec_ld_a_mbc s
  | .ld_a_mde => Sys2Proof.Machine.exec_ld_a_mde s
  | .ld_mhli_a => Sys2Proof.Machine.exec_ld_mhli_a s
  | .ld_mhld_a => Sys2Proof.Machine.exec_ld_mhld_a s
  | .ld_a_mhli => Sys2Proof.Machine.exec_ld_a_mhli s
  | .ld_a_mhld => Sys2Proof.Machine.exec_ld_a_mhld s
  | .ld_ma16_a a => Sys2Proof.Machine.exec_ld_ma16_a a s
  | .ld_a_ma16 a => Sys2Proof.Machine.exec_ld_a_ma16 a s
  | .ldh_ma8_a v => Sys2Proof.Machine.exec_ldh_ma8_a v s
  | .ldh_a_ma8 v => Sys2Proof.Machine.exec_ldh_a_ma8 v s
  | .ld_mc_a => Sys2Proof.Machine.exec_ld_mc_a s
  | .ld_a_mc => Sys2Proof.Machine.exec_ld_a_mc s
  | .ld_bc_d16 v => Sys2Proof.Machine.exec_ld_bc_d16 v s
  | .ld_de_d16 v => Sys2Proof.Machine.exec_ld_de_d16 v s
  | .ld_hl_d16 v => Sys2Proof.Machine.exec_ld_hl_d16 v s
  | .ld_sp_d16 v => Sys2Proof.Machine.exec_ld_sp_d16 v s
  | .ld_ma16_sp a => Sys2Proof.Machine.exec_ld_ma16_sp a s
  | .ld_sp_hl => Sys2Proof.Machine.exec_ld_sp_hl s
  | .ld_hl_sp_e8 e => Sys2Proof.Machine.exec_ld_hl_sp_e8 e s
  | .push_bc => Sys2Proof.Machine.exec_push_bc s
  | .push_de => Sys2Proof.Machine.exec_push_de s
  | .push_hl => Sys2Proof.Machine.exec_push_hl s
  | .push_af => Sys2Proof.Machine.exec_push_af s
  | .pop_bc => Sys2Proof.Machine.exec_pop_bc s
  | .pop_de => Sys2Proof.Machine.exec_pop_de s
  | .pop_hl => Sys2Proof.Machine.exec_pop_hl s
  | .pop_af => Sys2Proof.Machine.exec_pop_af s
  | .call_a16 a => Sys2Proof.Machine.exec_call_a16 a s
  | .call_nz_a16 a => Sys2Proof.Machine.exec_call_nz_a16 a s
  | .call_z_a16 a => Sys2Proof.Machine.exec_call_z_a16 a s
  | .call_nc_a16 a => Sys2Proof.Machine.exec_call_nc_a16 a s
  | .call_c_a16 a => Sys2Proof.Machine.exec_call_c_a16 a s
  | .ret => Sys2Proof.Machine.exec_ret s
  | .ret_nz => Sys2Proof.Machine.exec_ret_nz s
  | .ret_z => Sys2Proof.Machine.exec_ret_z s
  | .ret_nc => Sys2Proof.Machine.exec_ret_nc s
  | .ret_c => Sys2Proof.Machine.exec_ret_c s
  | .prefix_cb op => Sys2Proof.Machine.exec_prefix_cb op s
  | .unassigned_03 => Sys2Proof.Machine.exec_unassigned_03 s
  | .unassigned_04 => Sys2Proof.Machine.exec_unassigned_04 s
  | .unassigned_05 => Sys2Proof.Machine.exec_unassigned_05 s
  | .unassigned_07 => Sys2Proof.Machine.exec_unassigned_07 s
  | .unassigned_0b => Sys2Proof.Machine.exec_unassigned_0b s
  | .unassigned_0c => Sys2Proof.Machine.exec_unassigned_0c s
  | .unassigned_0d => Sys2Proof.Machine.exec_unassigned_0d s
  | .unassigned_0f => Sys2Proof.Machine.exec_unassigned_0f s
  | .unassigned_10 => Sys2Proof.Machine.exec_unassigned_10 s
  | .unassigned_13 => Sys2Proof.Machine.exec_unassigned_13 s
  | .unassigned_14 => Sys2Proof.Machine.exec_unassigned_14 s
  | .unassigned_15 => Sys2Proof.Machine.exec_unassigned_15 s
  | .unassigned_17 => Sys2Proof.Machine.exec_unassigned_17 s
  | .unassigned_18 => Sys2Proof.Machine.exec_unassigned_18 s
  | .unassigned_1b => Sys2Proof.Machine.exec_unassigned_1b s
  | .unassigned_1c => Sys2Proof.Machine.exec_unassigned_1c s
  | .unassigned_1d => Sys2Proof.Machine.exec_unassigned_1d s
  | .unassigned_1f => Sys2Proof.Machine.exec_unassigned_1f s
  | .unassigned_20 => Sys2Proof.Machine.exec_unassigned_20 s
  | .unassigned_23 => Sys2Proof.Machine.exec_unassigned_23 s
  | .unassigned_24 => Sys2Proof.Machine.exec_unassigned_24 s
  | .unassigned_25 => Sys2Proof.Machine.exec_unassigned_25 s
  | .unassigned_27 => Sys2Proof.Machine.exec_unassigned_27 s
  | .unassigned_28 => Sys2Proof.Machine.exec_unassigned_28 s
  | .unassigned_2b => Sys2Proof.Machine.exec_unassigned_2b s
  | .unassigned_2c => Sys2Proof.Machine.exec_unassigned_2c s
  | .unassigned_2d => Sys2Proof.Machine.exec_unassigned_2d s
  | .unassigned_2f => Sys2Proof.Machine.exec_unassigned_2f s
  | .unassigned_30 => Sys2Proof.Machine.exec_unassigned_30 s
  | .unassigned_33 => Sys2Proof.Machine.exec_unassigned_33 s
  | .unassigned_34 => Sys2Proof.Machine.exec_unassigned_34 s
  | .unassigned_35 => Sys2Proof.Machine.exec_unassigned_35 s
  | .unassigned_37 => Sys2Proof.Machine.exec_unassigned_37 s
  | .unassigned_38 => Sys2Proof.Machine.exec_unassigned_38 s
  | .unassigned_3b => Sys2Proof.Machine.exec_unassigned_3b s
  | .unassigned_3c => Sys2Proof.Machine.exec_unassigned_3c s
  | .unassigned_3d => Sys2Proof.Machine.exec_unassigned_3d s
  | .unassigned_3f => Sys2Proof.Machine.exec_unassigned_3f s
  | .unassigned_76 => Sys2Proof.Machine.exec_unassigned_76 s
  | .unassigned_c7 => Sys2Proof.Machine.exec_unassigned_c7 s
  | .unassigned_cf => Sys2Proof.Machine.exec_unassigned_cf s
  | .unassigned_d3 => Sys2Proof.Machine.exec_unassigned_d3 s
  | .unassigned_d7 => Sys2Proof.Machine.exec_unassigned_d7 s
  | .unassigned_d9 => Sys2Proof.Machine.exec_unassigned_d9 s
  | .unassigned_db => Sys2Proof.Machine.exec_unassigned_db s
  | .unassigned_dd => Sys2Proof.Machine.exec_unassigned_dd s
  | .unassigned_df => Sys2Proof.Machine.exec_unassigned_df s
  | .unassigned_e3 => Sys2Proof.Machine.exec_unassigned_e3 s
  | .unassigned_e4 => Sys2Proof.Machine.exec_unassigned_e4 s
  | .unassigned_e7 => Sys2Proof.Machine.exec_unassigned_e7 s
  | .unassigned_e9 => Sys2Proof.Machine.exec_unassigned_e9 s
  | .unassigned_eb => Sys2Proof.Machine.exec_unassigned_eb s
  | .unassigned_ec => Sys2Proof.Machine.exec_unassigned_ec s
  | .unassigned_ed => Sys2Proof.Machine.exec_unassigned_ed s
  | .unassigned_ef => Sys2Proof.Machine.exec_unassigned_ef s
  | .unassigned_f3 => Sys2Proof.Machine.exec_unassigned_f3 s
  | .unassigned_f4 => Sys2Proof.Machine.exec_unassigned_f4 s
  | .unassigned_f7 => Sys2Proof.Machine.exec_unassigned_f7 s
  | .unassigned_fb => Sys2Proof.Machine.exec_unassigned_fb s
  | .unassigned_fc => Sys2Proof.Machine.exec_unassigned_fc s
  | .unassigned_fd => Sys2Proof.Machine.exec_unassigned_fd s
  | .unassigned_ff => Sys2Proof.Machine.exec_unassigned_ff s

end Sys2Proof.Machine
end

