-- ==== Sys2Proof/Machine/Variants.lean ====
section
/-! DEFINITION. Which of the source's variants each instruction is (30_encoding.md R81, the "variant" column of
spec/opcode_table.json). `none`: the 62 unassigned bytes and the prefix, for which the source has no variant (R86, R87).
Statements and the bus view quantify over families through this map; `exec` does not read it. -/

namespace Sys2Proof

/-- The variant of an instruction, with its operands (R81). -/
def Instr.variant : Instr → Option Variant
  | .nop => some .nop
  | .add_a_b => some (.alu .add (.reg .b))
  | .add_a_c => some (.alu .add (.reg .c))
  | .add_a_d => some (.alu .add (.reg .d))
  | .add_a_e => some (.alu .add (.reg .e))
  | .add_a_h => some (.alu .add (.reg .h))
  | .add_a_l => some (.alu .add (.reg .l))
  | .add_a_a => some (.alu .add (.reg .a))
  | .add_a_mhl => some (.alu .add (.mem .hl))
  | .add_a_d8 v => some (.alu .add (.d8 v))
  | .adc_a_b => some (.alu .adc (.reg .b))
  | .adc_a_c => some (.alu .adc (.reg .c))
  | .adc_a_d => some (.alu .adc (.reg .d))
  | .adc_a_e => some (.alu .adc (.reg .e))
  | .adc_a_h => some (.alu .adc (.reg .h))
  | .adc_a_l => some (.alu .adc (.reg .l))
  | .adc_a_a => some (.alu .adc (.reg .a))
  | .adc_a_mhl => some (.alu .adc (.mem .hl))
  | .adc_a_d8 v => some (.alu .adc (.d8 v))
  | .sub_b => some (.alu .sub (.reg .b))
  | .sub_c => some (.alu .sub (.reg .c))
  | .sub_d => some (.alu .sub (.reg .d))
  | .sub_e => some (.alu .sub (.reg .e))
  | .sub_h => some (.alu .sub (.reg .h))
  | .sub_l => some (.alu .sub (.reg .l))
  | .sub_a => some (.alu .sub (.reg .a))
  | .sub_mhl => some (.alu .sub (.mem .hl))
  | .sub_d8 v => some (.alu .sub (.d8 v))
  | .sbc_a_b => some (.alu .sbc (.reg .b))
  | .sbc_a_c => some (.alu .sbc (.reg .c))
  | .sbc_a_d => some (.alu .sbc (.reg .d))
  | .sbc_a_e => some (.alu .sbc (.reg .e))
  | .sbc_a_h => some (.alu .sbc (.reg .h))
  | .sbc_a_l => some (.alu .sbc (.reg .l))
  | .sbc_a_a => some (.alu .sbc (.reg .a))
  | .sbc_a_mhl => some (.alu .sbc (.mem .hl))
  | .sbc_a_d8 v => some (.alu .sbc (.d8 v))
  | .and_b => some (.alu .and (.reg .b))
  | .and_c => some (.alu .and (.reg .c))
  | .and_d => some (.alu .and (.reg .d))
  | .and_e => some (.alu .and (.reg .e))
  | .and_h => some (.alu .and (.reg .h))
  | .and_l => some (.alu .and (.reg .l))
  | .and_a => some (.alu .and (.reg .a))
  | .and_mhl => some (.alu .and (.mem .hl))
  | .and_d8 v => some (.alu .and (.d8 v))
  | .xor_b => some (.alu .xor (.reg .b))
  | .xor_c => some (.alu .xor (.reg .c))
  | .xor_d => some (.alu .xor (.reg .d))
  | .xor_e => some (.alu .xor (.reg .e))
  | .xor_h => some (.alu .xor (.reg .h))
  | .xor_l => some (.alu .xor (.reg .l))
  | .xor_a => some (.alu .xor (.reg .a))
  | .xor_mhl => some (.alu .xor (.mem .hl))
  | .xor_d8 v => some (.alu .xor (.d8 v))
  | .or_b => some (.alu .or (.reg .b))
  | .or_c => some (.alu .or (.reg .c))
  | .or_d => some (.alu .or (.reg .d))
  | .or_e => some (.alu .or (.reg .e))
  | .or_h => some (.alu .or (.reg .h))
  | .or_l => some (.alu .or (.reg .l))
  | .or_a => some (.alu .or (.reg .a))
  | .or_mhl => some (.alu .or (.mem .hl))
  | .or_d8 v => some (.alu .or (.d8 v))
  | .cp_b => some (.alu .cp (.reg .b))
  | .cp_c => some (.alu .cp (.reg .c))
  | .cp_d => some (.alu .cp (.reg .d))
  | .cp_e => some (.alu .cp (.reg .e))
  | .cp_h => some (.alu .cp (.reg .h))
  | .cp_l => some (.alu .cp (.reg .l))
  | .cp_a => some (.alu .cp (.reg .a))
  | .cp_mhl => some (.alu .cp (.mem .hl))
  | .cp_d8 v => some (.alu .cp (.d8 v))
  | .add_hl_bc => some (.addHL .bc)
  | .add_hl_de => some (.addHL .de)
  | .add_hl_hl => some (.addHL .hl)
  | .add_hl_sp => some (.addHL .sp)
  | .add_sp_e8 e => some (.addSP e)
  | .jp_a16 a => some (.jp .always a)
  | .jp_nz_a16 a => some (.jp .nz a)
  | .jp_z_a16 a => some (.jp .z a)
  | .jp_nc_a16 a => some (.jp .nc a)
  | .jp_c_a16 a => some (.jp .c a)
  | .ld_b_b => some (.load8 (.reg .b) (.reg .b))
  | .ld_b_c => some (.load8 (.reg .b) (.reg .c))
  | .ld_b_d => some (.load8 (.reg .b) (.reg .d))
  | .ld_b_e => some (.load8 (.reg .b) (.reg .e))
  | .ld_b_h => some (.load8 (.reg .b) (.reg .h))
  | .ld_b_l => some (.load8 (.reg .b) (.reg .l))
  | .ld_b_a => some (.load8 (.reg .b) (.reg .a))
  | .ld_c_b => some (.load8 (.reg .c) (.reg .b))
  | .ld_c_c => some (.load8 (.reg .c) (.reg .c))
  | .ld_c_d => some (.load8 (.reg .c) (.reg .d))
  | .ld_c_e => some (.load8 (.reg .c) (.reg .e))
  | .ld_c_h => some (.load8 (.reg .c) (.reg .h))
  | .ld_c_l => some (.load8 (.reg .c) (.reg .l))
  | .ld_c_a => some (.load8 (.reg .c) (.reg .a))
  | .ld_d_b => some (.load8 (.reg .d) (.reg .b))
  | .ld_d_c => some (.load8 (.reg .d) (.reg .c))
  | .ld_d_d => some (.load8 (.reg .d) (.reg .d))
  | .ld_d_e => some (.load8 (.reg .d) (.reg .e))
  | .ld_d_h => some (.load8 (.reg .d) (.reg .h))
  | .ld_d_l => some (.load8 (.reg .d) (.reg .l))
  | .ld_d_a => some (.load8 (.reg .d) (.reg .a))
  | .ld_e_b => some (.load8 (.reg .e) (.reg .b))
  | .ld_e_c => some (.load8 (.reg .e) (.reg .c))
  | .ld_e_d => some (.load8 (.reg .e) (.reg .d))
  | .ld_e_e => some (.load8 (.reg .e) (.reg .e))
  | .ld_e_h => some (.load8 (.reg .e) (.reg .h))
  | .ld_e_l => some (.load8 (.reg .e) (.reg .l))
  | .ld_e_a => some (.load8 (.reg .e) (.reg .a))
  | .ld_h_b => some (.load8 (.reg .h) (.reg .b))
  | .ld_h_c => some (.load8 (.reg .h) (.reg .c))
  | .ld_h_d => some (.load8 (.reg .h) (.reg .d))
  | .ld_h_e => some (.load8 (.reg .h) (.reg .e))
  | .ld_h_h => some (.load8 (.reg .h) (.reg .h))
  | .ld_h_l => some (.load8 (.reg .h) (.reg .l))
  | .ld_h_a => some (.load8 (.reg .h) (.reg .a))
  | .ld_l_b => some (.load8 (.reg .l) (.reg .b))
  | .ld_l_c => some (.load8 (.reg .l) (.reg .c))
  | .ld_l_d => some (.load8 (.reg .l) (.reg .d))
  | .ld_l_e => some (.load8 (.reg .l) (.reg .e))
  | .ld_l_h => some (.load8 (.reg .l) (.reg .h))
  | .ld_l_l => some (.load8 (.reg .l) (.reg .l))
  | .ld_l_a => some (.load8 (.reg .l) (.reg .a))
  | .ld_a_b => some (.load8 (.reg .a) (.reg .b))
  | .ld_a_c => some (.load8 (.reg .a) (.reg .c))
  | .ld_a_d => some (.load8 (.reg .a) (.reg .d))
  | .ld_a_e => some (.load8 (.reg .a) (.reg .e))
  | .ld_a_h => some (.load8 (.reg .a) (.reg .h))
  | .ld_a_l => some (.load8 (.reg .a) (.reg .l))
  | .ld_a_a => some (.load8 (.reg .a) (.reg .a))
  | .ld_b_mhl => some (.load8 (.reg .b) (.mem .hl))
  | .ld_c_mhl => some (.load8 (.reg .c) (.mem .hl))
  | .ld_d_mhl => some (.load8 (.reg .d) (.mem .hl))
  | .ld_e_mhl => some (.load8 (.reg .e) (.mem .hl))
  | .ld_h_mhl => some (.load8 (.reg .h) (.mem .hl))
  | .ld_l_mhl => some (.load8 (.reg .l) (.mem .hl))
  | .ld_a_mhl => some (.load8 (.reg .a) (.mem .hl))
  | .ld_mhl_b => some (.load8 (.mem .hl) (.reg .b))
  | .ld_mhl_c => some (.load8 (.mem .hl) (.reg .c))
  | .ld_mhl_d => some (.load8 (.mem .hl) (.reg .d))
  | .ld_mhl_e => some (.load8 (.mem .hl) (.reg .e))
  | .ld_mhl_h => some (.load8 (.mem .hl) (.reg .h))
  | .ld_mhl_l => some (.load8 (.mem .hl) (.reg .l))
  | .ld_mhl_a => some (.load8 (.mem .hl) (.reg .a))
  | .ld_b_d8 v => some (.load8 (.reg .b) (.d8 v))
  | .ld_c_d8 v => some (.load8 (.reg .c) (.d8 v))
  | .ld_d_d8 v => some (.load8 (.reg .d) (.d8 v))
  | .ld_e_d8 v => some (.load8 (.reg .e) (.d8 v))
  | .ld_h_d8 v => some (.load8 (.reg .h) (.d8 v))
  | .ld_l_d8 v => some (.load8 (.reg .l) (.d8 v))
  | .ld_a_d8 v => some (.load8 (.reg .a) (.d8 v))
  | .ld_mhl_d8 v => some (.load8 (.mem .hl) (.d8 v))
  | .ld_mbc_a => some (.load8 (.mem .bc) (.reg .a))
  | .ld_mde_a => some (.load8 (.mem .de) (.reg .a))
  | .ld_a_mbc => some (.load8 (.reg .a) (.mem .bc))
  | .ld_a_mde => some (.load8 (.reg .a) (.mem .de))
  | .ld_mhli_a => some (.load8 (.mem .hlInc) (.reg .a))
  | .ld_mhld_a => some (.load8 (.mem .hlDec) (.reg .a))
  | .ld_a_mhli => some (.load8 (.reg .a) (.mem .hlInc))
  | .ld_a_mhld => some (.load8 (.reg .a) (.mem .hlDec))
  | .ld_ma16_a a => some (.load8 (.mem (.direct a)) (.reg .a))
  | .ld_a_ma16 a => some (.load8 (.reg .a) (.mem (.direct a)))
  | .ldh_ma8_a v => some (.load8 (.mem (.high v)) (.reg .a))
  | .ldh_a_ma8 v => some (.load8 (.reg .a) (.mem (.high v)))
  | .ld_mc_a => some (.load8 (.mem .highC) (.reg .a))
  | .ld_a_mc => some (.load8 (.reg .a) (.mem .highC))
  | .ld_bc_d16 v => some (.loadPair .bc v)
  | .ld_de_d16 v => some (.loadPair .de v)
  | .ld_hl_d16 v => some (.loadPair .hl v)
  | .ld_sp_d16 v => some (.loadPair .sp v)
  | .ld_ma16_sp a => some (.storeSP a)
  | .ld_sp_hl => some .loadSPHL
  | .ld_hl_sp_e8 e => some (.loadHLSP e)
  | .push_bc => some (.push .bc)
  | .push_de => some (.push .de)
  | .push_hl => some (.push .hl)
  | .push_af => some (.push .af)
  | .pop_bc => some (.pop .bc)
  | .pop_de => some (.pop .de)
  | .pop_hl => some (.pop .hl)
  | .pop_af => some (.pop .af)
  | .call_a16 a => some (.call .always a)
  | .call_nz_a16 a => some (.call .nz a)
  | .call_z_a16 a => some (.call .z a)
  | .call_nc_a16 a => some (.call .nc a)
  | .call_c_a16 a => some (.call .c a)
  | .ret => some (.ret .always)
  | .ret_nz => some (.ret .nz)
  | .ret_z => some (.ret .z)
  | .ret_nc => some (.ret .nc)
  | .ret_c => some (.ret .c)
  | .prefix_cb _ => none
  | .unassigned_03 => none
  | .unassigned_04 => none
  | .unassigned_05 => none
  | .unassigned_07 => none
  | .unassigned_0b => none
  | .unassigned_0c => none
  | .unassigned_0d => none
  | .unassigned_0f => none
  | .unassigned_10 => none
  | .unassigned_13 => none
  | .unassigned_14 => none
  | .unassigned_15 => none
  | .unassigned_17 => none
  | .unassigned_18 => none
  | .unassigned_1b => none
  | .unassigned_1c => none
  | .unassigned_1d => none
  | .unassigned_1f => none
  | .unassigned_20 => none
  | .unassigned_23 => none
  | .unassigned_24 => none
  | .unassigned_25 => none
  | .unassigned_27 => none
  | .unassigned_28 => none
  | .unassigned_2b => none
  | .unassigned_2c => none
  | .unassigned_2d => none
  | .unassigned_2f => none
  | .unassigned_30 => none
  | .unassigned_33 => none
  | .unassigned_34 => none
  | .unassigned_35 => none
  | .unassigned_37 => none
  | .unassigned_38 => none
  | .unassigned_3b => none
  | .unassigned_3c => none
  | .unassigned_3d => none
  | .unassigned_3f => none
  | .unassigned_76 => none
  | .unassigned_c7 => none
  | .unassigned_cf => none
  | .unassigned_d3 => none
  | .unassigned_d7 => none
  | .unassigned_d9 => none
  | .unassigned_db => none
  | .unassigned_dd => none
  | .unassigned_df => none
  | .unassigned_e3 => none
  | .unassigned_e4 => none
  | .unassigned_e7 => none
  | .unassigned_e9 => none
  | .unassigned_eb => none
  | .unassigned_ec => none
  | .unassigned_ed => none
  | .unassigned_ef => none
  | .unassigned_f3 => none
  | .unassigned_f4 => none
  | .unassigned_f7 => none
  | .unassigned_fb => none
  | .unassigned_fc => none
  | .unassigned_fd => none
  | .unassigned_ff => none

end Sys2Proof
end

