-- ==== Sys2Proof/WellFormed.lean ====
section
/-! DEFINITION. Well-formedness: which operand combinations have an encoding (40_nop_alu8.md R125, 43_load8.md R160 to
R180), and which instructions are assigned (30_encoding.md R80, R86, R87). Widths need no check: an immediate is a
bit vector of its width, a register, pair or condition one of its names. -/

namespace Sys2Proof

/-- The operand forms of the 8-bit ALU: a register, (HL), d8; "no ALU forms with (BC), (DE), (HL+), (HL-), a16 or
high-page operands" (R125). -/
def Src.aluForm : Src → Bool
  | .reg _ => true
  | .mem .hl => true
  | .d8 _ => true
  | .mem _ => false

/-- The pairs of source and target that a byte load has: exactly R161 to R179. No memory-to-memory load (R91, R180);
(BC), (DE), (HL+), (HL-), (a16), (a8) and (C) pair only with A (R160). -/
def loadForm : Dst → Src → Bool
  | .reg _, .reg _ => true
  | .reg _, .mem .hl => true
  | .mem .hl, .reg _ => true
  | .reg _, .d8 _ => true
  | .mem .hl, .d8 _ => true
  | .mem _, .reg r => r == .a
  | .reg r, .mem _ => r == .a
  | .mem _, .mem _ => false
  | .mem _, .d8 _ => false

/-- The variant has an encoding. -/
def Variant.wf : Variant → Bool
  | .alu _ src => src.aluForm
  | .load8 dst src => loadForm dst src
  | _ => true

/-- The instruction is one of the 193 assigned ones, with operands that have an encoding (R80, R86, R87). -/
def Instr.wf (i : Instr) : Bool :=
  match i.variant with
  | some v => v.wf
  | none => false

/-- The byte after the prefix escape; no other row has one (R70, R71). -/
def Instr.secondByte : Instr → Option Byte
  | .prefix_cb op => some op
  | _ => none

end Sys2Proof
end

