-- ==== Sys2Proof/Decode.lean ====
section
/-! DEFINITION. The decoder, row by row of the opcode map (30_encoding.md R80), the decode table as the spec's own
partial function (R79, R86, R87), a decoder of byte lists, and AFTER it the encoder (R81) and the field view of the
opcode byte (R73 to R77). Bytes other than 0x00 and 0xCB are the spec's map by its decision D1 (UNVERIFIED, log entry 4).
In a row, `x` is the byte after the opcode and `y` the one after that; a 16-bit immediate is little-endian (R78). -/

namespace Sys2Proof

open Machine (mkWord hiByte loByte byteOf)

/-! ### Decoder -/

/-- The bytes 0x00 to 0x0F of the opcode map (R80). -/
def row0 (lo : Nat) (x y : Byte) : Instr :=
  match lo with
  | 0 => .nop
  | 1 => .ld_bc_d16 (mkWord y x)
  | 2 => .ld_mbc_a
  | 3 => .unassigned_03
  | 4 => .unassigned_04
  | 5 => .unassigned_05
  | 6 => .ld_b_d8 x
  | 7 => .unassigned_07
  | 8 => .ld_ma16_sp (mkWord y x)
  | 9 => .add_hl_bc
  | 10 => .ld_a_mbc
  | 11 => .unassigned_0b
  | 12 => .unassigned_0c
  | 13 => .unassigned_0d
  | 14 => .ld_c_d8 x
  | _ => .unassigned_0f

/-- The bytes 0x10 to 0x1F of the opcode map (R80). -/
def row1 (lo : Nat) (x y : Byte) : Instr :=
  match lo with
  | 0 => .unassigned_10
  | 1 => .ld_de_d16 (mkWord y x)
  | 2 => .ld_mde_a
  | 3 => .unassigned_13
  | 4 => .unassigned_14
  | 5 => .unassigned_15
  | 6 => .ld_d_d8 x
  | 7 => .unassigned_17
  | 8 => .unassigned_18
  | 9 => .add_hl_de
  | 10 => .ld_a_mde
  | 11 => .unassigned_1b
  | 12 => .unassigned_1c
  | 13 => .unassigned_1d
  | 14 => .ld_e_d8 x
  | _ => .unassigned_1f

/-- The bytes 0x20 to 0x2F of the opcode map (R80). -/
def row2 (lo : Nat) (x y : Byte) : Instr :=
  match lo with
  | 0 => .unassigned_20
  | 1 => .ld_hl_d16 (mkWord y x)
  | 2 => .ld_mhli_a
  | 3 => .unassigned_23
  | 4 => .unassigned_24
  | 5 => .unassigned_25
  | 6 => .ld_h_d8 x
  | 7 => .unassigned_27
  | 8 => .unassigned_28
  | 9 => .add_hl_hl
  | 10 => .ld_a_mhli
  | 11 => .unassigned_2b
  | 12 => .unassigned_2c
  | 13 => .unassigned_2d
  | 14 => .ld_l_d8 x
  | _ => .unassigned_2f

/-- The bytes 0x30 to 0x3F of the opcode map (R80). -/
def row3 (lo : Nat) (x y : Byte) : Instr :=
  match lo with
  | 0 => .unassigned_30
  | 1 => .ld_sp_d16 (mkWord y x)
  | 2 => .ld_mhld_a
  | 3 => .unassigned_33
  | 4 => .unassigned_34
  | 5 => .unassigned_35
  | 6 => .ld_mhl_d8 x
  | 7 => .unassigned_37
  | 8 => .unassigned_38
  | 9 => .add_hl_sp
  | 10 => .ld_a_mhld
  | 11 => .unassigned_3b
  | 12 => .unassigned_3c
  | 13 => .unassigned_3d
  | 14 => .ld_a_d8 x
  | _ => .unassigned_3f

/-- The bytes 0x40 to 0x4F of the opcode map (R80). -/
def row4 (lo : Nat) : Instr :=
  match lo with
  | 0 => .ld_b_b
  | 1 => .ld_b_c
  | 2 => .ld_b_d
  | 3 => .ld_b_e
  | 4 => .ld_b_h
  | 5 => .ld_b_l
  | 6 => .ld_b_mhl
  | 7 => .ld_b_a
  | 8 => .ld_c_b
  | 9 => .ld_c_c
  | 10 => .ld_c_d
  | 11 => .ld_c_e
  | 12 => .ld_c_h
  | 13 => .ld_c_l
  | 14 => .ld_c_mhl
  | _ => .ld_c_a

/-- The bytes 0x50 to 0x5F of the opcode map (R80). -/
def row5 (lo : Nat) : Instr :=
  match lo with
  | 0 => .ld_d_b
  | 1 => .ld_d_c
  | 2 => .ld_d_d
  | 3 => .ld_d_e
  | 4 => .ld_d_h
  | 5 => .ld_d_l
  | 6 => .ld_d_mhl
  | 7 => .ld_d_a
  | 8 => .ld_e_b
  | 9 => .ld_e_c
  | 10 => .ld_e_d
  | 11 => .ld_e_e
  | 12 => .ld_e_h
  | 13 => .ld_e_l
  | 14 => .ld_e_mhl
  | _ => .ld_e_a

/-- The bytes 0x60 to 0x6F of the opcode map (R80). -/
def row6 (lo : Nat) : Instr :=
  match lo with
  | 0 => .ld_h_b
  | 1 => .ld_h_c
  | 2 => .ld_h_d
  | 3 => .ld_h_e
  | 4 => .ld_h_h
  | 5 => .ld_h_l
  | 6 => .ld_h_mhl
  | 7 => .ld_h_a
  | 8 => .ld_l_b
  | 9 => .ld_l_c
  | 10 => .ld_l_d
  | 11 => .ld_l_e
  | 12 => .ld_l_h
  | 13 => .ld_l_l
  | 14 => .ld_l_mhl
  | _ => .ld_l_a

/-- The bytes 0x70 to 0x7F of the opcode map (R80). -/
def row7 (lo : Nat) : Instr :=
  match lo with
  | 0 => .ld_mhl_b
  | 1 => .ld_mhl_c
  | 2 => .ld_mhl_d
  | 3 => .ld_mhl_e
  | 4 => .ld_mhl_h
  | 5 => .ld_mhl_l
  | 6 => .unassigned_76
  | 7 => .ld_mhl_a
  | 8 => .ld_a_b
  | 9 => .ld_a_c
  | 10 => .ld_a_d
  | 11 => .ld_a_e
  | 12 => .ld_a_h
  | 13 => .ld_a_l
  | 14 => .ld_a_mhl
  | _ => .ld_a_a

/-- The bytes 0x80 to 0x8F of the opcode map (R80). -/
def row8 (lo : Nat) : Instr :=
  match lo with
  | 0 => .add_a_b
  | 1 => .add_a_c
  | 2 => .add_a_d
  | 3 => .add_a_e
  | 4 => .add_a_h
  | 5 => .add_a_l
  | 6 => .add_a_mhl
  | 7 => .add_a_a
  | 8 => .adc_a_b
  | 9 => .adc_a_c
  | 10 => .adc_a_d
  | 11 => .adc_a_e
  | 12 => .adc_a_h
  | 13 => .adc_a_l
  | 14 => .adc_a_mhl
  | _ => .adc_a_a

/-- The bytes 0x90 to 0x9F of the opcode map (R80). -/
def row9 (lo : Nat) : Instr :=
  match lo with
  | 0 => .sub_b
  | 1 => .sub_c
  | 2 => .sub_d
  | 3 => .sub_e
  | 4 => .sub_h
  | 5 => .sub_l
  | 6 => .sub_mhl
  | 7 => .sub_a
  | 8 => .sbc_a_b
  | 9 => .sbc_a_c
  | 10 => .sbc_a_d
  | 11 => .sbc_a_e
  | 12 => .sbc_a_h
  | 13 => .sbc_a_l
  | 14 => .sbc_a_mhl
  | _ => .sbc_a_a

/-- The bytes 0xA0 to 0xAF of the opcode map (R80). -/
def rowA (lo : Nat) : Instr :=
  match lo with
  | 0 => .and_b
  | 1 => .and_c
  | 2 => .and_d
  | 3 => .and_e
  | 4 => .and_h
  | 5 => .and_l
  | 6 => .and_mhl
  | 7 => .and_a
  | 8 => .xor_b
  | 9 => .xor_c
  | 10 => .xor_d
  | 11 => .xor_e
  | 12 => .xor_h
  | 13 => .xor_l
  | 14 => .xor_mhl
  | _ => .xor_a

/-- The bytes 0xB0 to 0xBF of the opcode map (R80). -/
def rowB (lo : Nat) : Instr :=
  match lo with
  | 0 => .or_b
  | 1 => .or_c
  | 2 => .or_d
  | 3 => .or_e
  | 4 => .or_h
  | 5 => .or_l
  | 6 => .or_mhl
  | 7 => .or_a
  | 8 => .cp_b
  | 9 => .cp_c
  | 10 => .cp_d
  | 11 => .cp_e
  | 12 => .cp_h
  | 13 => .cp_l
  | 14 => .cp_mhl
  | _ => .cp_a

/-- The bytes 0xC0 to 0xCF of the opcode map (R80). -/
def rowC (lo : Nat) (x y : Byte) : Instr :=
  match lo with
  | 0 => .ret_nz
  | 1 => .pop_bc
  | 2 => .jp_nz_a16 (mkWord y x)
  | 3 => .jp_a16 (mkWord y x)
  | 4 => .call_nz_a16 (mkWord y x)
  | 5 => .push_bc
  | 6 => .add_a_d8 x
  | 7 => .unassigned_c7
  | 8 => .ret_z
  | 9 => .ret
  | 10 => .jp_z_a16 (mkWord y x)
  | 11 => .prefix_cb x
  | 12 => .call_z_a16 (mkWord y x)
  | 13 => .call_a16 (mkWord y x)
  | 14 => .adc_a_d8 x
  | _ => .unassigned_cf

/-- The bytes 0xD0 to 0xDF of the opcode map (R80). -/
def rowD (lo : Nat) (x y : Byte) : Instr :=
  match lo with
  | 0 => .ret_nc
  | 1 => .pop_de
  | 2 => .jp_nc_a16 (mkWord y x)
  | 3 => .unassigned_d3
  | 4 => .call_nc_a16 (mkWord y x)
  | 5 => .push_de
  | 6 => .sub_d8 x
  | 7 => .unassigned_d7
  | 8 => .ret_c
  | 9 => .unassigned_d9
  | 10 => .jp_c_a16 (mkWord y x)
  | 11 => .unassigned_db
  | 12 => .call_c_a16 (mkWord y x)
  | 13 => .unassigned_dd
  | 14 => .sbc_a_d8 x
  | _ => .unassigned_df

/-- The bytes 0xE0 to 0xEF of the opcode map (R80). -/
def rowE (lo : Nat) (x y : Byte) : Instr :=
  match lo with
  | 0 => .ldh_ma8_a x
  | 1 => .pop_hl
  | 2 => .ld_mc_a
  | 3 => .unassigned_e3
  | 4 => .unassigned_e4
  | 5 => .push_hl
  | 6 => .and_d8 x
  | 7 => .unassigned_e7
  | 8 => .add_sp_e8 x
  | 9 => .unassigned_e9
  | 10 => .ld_ma16_a (mkWord y x)
  | 11 => .unassigned_eb
  | 12 => .unassigned_ec
  | 13 => .unassigned_ed
  | 14 => .xor_d8 x
  | _ => .unassigned_ef

/-- The bytes 0xF0 to 0xFF of the opcode map (R80). -/
def rowF (lo : Nat) (x y : Byte) : Instr :=
  match lo with
  | 0 => .ldh_a_ma8 x
  | 1 => .pop_af
  | 2 => .ld_a_mc
  | 3 => .unassigned_f3
  | 4 => .unassigned_f4
  | 5 => .push_af
  | 6 => .or_d8 x
  | 7 => .unassigned_f7
  | 8 => .ld_hl_sp_e8 x
  | 9 => .ld_sp_hl
  | 10 => .ld_a_ma16 (mkWord y x)
  | 11 => .unassigned_fb
  | 12 => .unassigned_fc
  | 13 => .unassigned_fd
  | 14 => .cp_d8 x
  | _ => .unassigned_ff

/-- The row of the opcode map that the first byte selects, with its immediates from the next two bytes (R71, R78, R80).
Every byte has a row: the unassigned bytes and the prefix escape decode to the constructors that carry their names,
whose only meaning is the fatal condition (R86, R87; log entry 5). -/
def decodeAt (b0 b1 b2 : Byte) : Instr :=
  match b0.toNat / 16 with
  | 0 => row0 (b0.toNat % 16) b1 b2
  | 1 => row1 (b0.toNat % 16) b1 b2
  | 2 => row2 (b0.toNat % 16) b1 b2
  | 3 => row3 (b0.toNat % 16) b1 b2
  | 4 => row4 (b0.toNat % 16)
  | 5 => row5 (b0.toNat % 16)
  | 6 => row6 (b0.toNat % 16)
  | 7 => row7 (b0.toNat % 16)
  | 8 => row8 (b0.toNat % 16)
  | 9 => row9 (b0.toNat % 16)
  | 10 => rowA (b0.toNat % 16)
  | 11 => rowB (b0.toNat % 16)
  | 12 => rowC (b0.toNat % 16) b1 b2
  | 13 => rowD (b0.toNat % 16) b1 b2
  | 14 => rowE (b0.toNat % 16) b1 b2
  | _ => rowF (b0.toNat % 16) b1 b2

/-! ### Encoder -/

/-- The opcode byte of an instruction (R81, R86): the byte at PC. -/
def Instr.opcode : Instr → Byte
  | .nop => 0x00
  | .add_a_b => 0x80
  | .add_a_c => 0x81
  | .add_a_d => 0x82
  | .add_a_e => 0x83
  | .add_a_h => 0x84
  | .add_a_l => 0x85
  | .add_a_a => 0x87
  | .add_a_mhl => 0x86
  | .add_a_d8 _ => 0xC6
  | .adc_a_b => 0x88
  | .adc_a_c => 0x89
  | .adc_a_d => 0x8A
  | .adc_a_e => 0x8B
  | .adc_a_h => 0x8C
  | .adc_a_l => 0x8D
  | .adc_a_a => 0x8F
  | .adc_a_mhl => 0x8E
  | .adc_a_d8 _ => 0xCE
  | .sub_b => 0x90
  | .sub_c => 0x91
  | .sub_d => 0x92
  | .sub_e => 0x93
  | .sub_h => 0x94
  | .sub_l => 0x95
  | .sub_a => 0x97
  | .sub_mhl => 0x96
  | .sub_d8 _ => 0xD6
  | .sbc_a_b => 0x98
  | .sbc_a_c => 0x99
  | .sbc_a_d => 0x9A
  | .sbc_a_e => 0x9B
  | .sbc_a_h => 0x9C
  | .sbc_a_l => 0x9D
  | .sbc_a_a => 0x9F
  | .sbc_a_mhl => 0x9E
  | .sbc_a_d8 _ => 0xDE
  | .and_b => 0xA0
  | .and_c => 0xA1
  | .and_d => 0xA2
  | .and_e => 0xA3
  | .and_h => 0xA4
  | .and_l => 0xA5
  | .and_a => 0xA7
  | .and_mhl => 0xA6
  | .and_d8 _ => 0xE6
  | .xor_b => 0xA8
  | .xor_c => 0xA9
  | .xor_d => 0xAA
  | .xor_e => 0xAB
  | .xor_h => 0xAC
  | .xor_l => 0xAD
  | .xor_a => 0xAF
  | .xor_mhl => 0xAE
  | .xor_d8 _ => 0xEE
  | .or_b => 0xB0
  | .or_c => 0xB1
  | .or_d => 0xB2
  | .or_e => 0xB3
  | .or_h => 0xB4
  | .or_l => 0xB5
  | .or_a => 0xB7
  | .or_mhl => 0xB6
  | .or_d8 _ => 0xF6
  | .cp_b => 0xB8
  | .cp_c => 0xB9
  | .cp_d => 0xBA
  | .cp_e => 0xBB
  | .cp_h => 0xBC
  | .cp_l => 0xBD
  | .cp_a => 0xBF
  | .cp_mhl => 0xBE
  | .cp_d8 _ => 0xFE
  | .add_hl_bc => 0x09
  | .add_hl_de => 0x19
  | .add_hl_hl => 0x29
  | .add_hl_sp => 0x39
  | .add_sp_e8 _ => 0xE8
  | .jp_a16 _ => 0xC3
  | .jp_nz_a16 _ => 0xC2
  | .jp_z_a16 _ => 0xCA
  | .jp_nc_a16 _ => 0xD2
  | .jp_c_a16 _ => 0xDA
  | .ld_b_b => 0x40
  | .ld_b_c => 0x41
  | .ld_b_d => 0x42
  | .ld_b_e => 0x43
  | .ld_b_h => 0x44
  | .ld_b_l => 0x45
  | .ld_b_a => 0x47
  | .ld_c_b => 0x48
  | .ld_c_c => 0x49
  | .ld_c_d => 0x4A
  | .ld_c_e => 0x4B
  | .ld_c_h => 0x4C
  | .ld_c_l => 0x4D
  | .ld_c_a => 0x4F
  | .ld_d_b => 0x50
  | .ld_d_c => 0x51
  | .ld_d_d => 0x52
  | .ld_d_e => 0x53
  | .ld_d_h => 0x54
  | .ld_d_l => 0x55
  | .ld_d_a => 0x57
  | .ld_e_b => 0x58
  | .ld_e_c => 0x59
  | .ld_e_d => 0x5A
  | .ld_e_e => 0x5B
  | .ld_e_h => 0x5C
  | .ld_e_l => 0x5D
  | .ld_e_a => 0x5F
  | .ld_h_b => 0x60
  | .ld_h_c => 0x61
  | .ld_h_d => 0x62
  | .ld_h_e => 0x63
  | .ld_h_h => 0x64
  | .ld_h_l => 0x65
  | .ld_h_a => 0x67
  | .ld_l_b => 0x68
  | .ld_l_c => 0x69
  | .ld_l_d => 0x6A
  | .ld_l_e => 0x6B
  | .ld_l_h => 0x6C
  | .ld_l_l => 0x6D
  | .ld_l_a => 0x6F
  | .ld_a_b => 0x78
  | .ld_a_c => 0x79
  | .ld_a_d => 0x7A
  | .ld_a_e => 0x7B
  | .ld_a_h => 0x7C
  | .ld_a_l => 0x7D
  | .ld_a_a => 0x7F
  | .ld_b_mhl => 0x46
  | .ld_c_mhl => 0x4E
  | .ld_d_mhl => 0x56
  | .ld_e_mhl => 0x5E
  | .ld_h_mhl => 0x66
  | .ld_l_mhl => 0x6E
  | .ld_a_mhl => 0x7E
  | .ld_mhl_b => 0x70
  | .ld_mhl_c => 0x71
  | .ld_mhl_d => 0x72
  | .ld_mhl_e => 0x73
  | .ld_mhl_h => 0x74
  | .ld_mhl_l => 0x75
  | .ld_mhl_a => 0x77
  | .ld_b_d8 _ => 0x06
  | .ld_c_d8 _ => 0x0E
  | .ld_d_d8 _ => 0x16
  | .ld_e_d8 _ => 0x1E
  | .ld_h_d8 _ => 0x26
  | .ld_l_d8 _ => 0x2E
  | .ld_a_d8 _ => 0x3E
  | .ld_mhl_d8 _ => 0x36
  | .ld_mbc_a => 0x02
  | .ld_mde_a => 0x12
  | .ld_a_mbc => 0x0A
  | .ld_a_mde => 0x1A
  | .ld_mhli_a => 0x22
  | .ld_mhld_a => 0x32
  | .ld_a_mhli => 0x2A
  | .ld_a_mhld => 0x3A
  | .ld_ma16_a _ => 0xEA
  | .ld_a_ma16 _ => 0xFA
  | .ldh_ma8_a _ => 0xE0
  | .ldh_a_ma8 _ => 0xF0
  | .ld_mc_a => 0xE2
  | .ld_a_mc => 0xF2
  | .ld_bc_d16 _ => 0x01
  | .ld_de_d16 _ => 0x11
  | .ld_hl_d16 _ => 0x21
  | .ld_sp_d16 _ => 0x31
  | .ld_ma16_sp _ => 0x08
  | .ld_sp_hl => 0xF9
  | .ld_hl_sp_e8 _ => 0xF8
  | .push_bc => 0xC5
  | .push_de => 0xD5
  | .push_hl => 0xE5
  | .push_af => 0xF5
  | .pop_bc => 0xC1
  | .pop_de => 0xD1
  | .pop_hl => 0xE1
  | .pop_af => 0xF1
  | .call_a16 _ => 0xCD
  | .call_nz_a16 _ => 0xC4
  | .call_z_a16 _ => 0xCC
  | .call_nc_a16 _ => 0xD4
  | .call_c_a16 _ => 0xDC
  | .ret => 0xC9
  | .ret_nz => 0xC0
  | .ret_z => 0xC8
  | .ret_nc => 0xD0
  | .ret_c => 0xD8
  | .prefix_cb _ => 0xCB
  | .unassigned_03 => 0x03
  | .unassigned_04 => 0x04
  | .unassigned_05 => 0x05
  | .unassigned_07 => 0x07
  | .unassigned_0b => 0x0B
  | .unassigned_0c => 0x0C
  | .unassigned_0d => 0x0D
  | .unassigned_0f => 0x0F
  | .unassigned_10 => 0x10
  | .unassigned_13 => 0x13
  | .unassigned_14 => 0x14
  | .unassigned_15 => 0x15
  | .unassigned_17 => 0x17
  | .unassigned_18 => 0x18
  | .unassigned_1b => 0x1B
  | .unassigned_1c => 0x1C
  | .unassigned_1d => 0x1D
  | .unassigned_1f => 0x1F
  | .unassigned_20 => 0x20
  | .unassigned_23 => 0x23
  | .unassigned_24 => 0x24
  | .unassigned_25 => 0x25
  | .unassigned_27 => 0x27
  | .unassigned_28 => 0x28
  | .unassigned_2b => 0x2B
  | .unassigned_2c => 0x2C
  | .unassigned_2d => 0x2D
  | .unassigned_2f => 0x2F
  | .unassigned_30 => 0x30
  | .unassigned_33 => 0x33
  | .unassigned_34 => 0x34
  | .unassigned_35 => 0x35
  | .unassigned_37 => 0x37
  | .unassigned_38 => 0x38
  | .unassigned_3b => 0x3B
  | .unassigned_3c => 0x3C
  | .unassigned_3d => 0x3D
  | .unassigned_3f => 0x3F
  | .unassigned_76 => 0x76
  | .unassigned_c7 => 0xC7
  | .unassigned_cf => 0xCF
  | .unassigned_d3 => 0xD3
  | .unassigned_d7 => 0xD7
  | .unassigned_d9 => 0xD9
  | .unassigned_db => 0xDB
  | .unassigned_dd => 0xDD
  | .unassigned_df => 0xDF
  | .unassigned_e3 => 0xE3
  | .unassigned_e4 => 0xE4
  | .unassigned_e7 => 0xE7
  | .unassigned_e9 => 0xE9
  | .unassigned_eb => 0xEB
  | .unassigned_ec => 0xEC
  | .unassigned_ed => 0xED
  | .unassigned_ef => 0xEF
  | .unassigned_f3 => 0xF3
  | .unassigned_f4 => 0xF4
  | .unassigned_f7 => 0xF7
  | .unassigned_fb => 0xFB
  | .unassigned_fc => 0xFC
  | .unassigned_fd => 0xFD
  | .unassigned_ff => 0xFF

/-- The immediate bytes that a memory operand brings: the two of a16, low byte first; the one of a8 (R78). -/
def MemOp.immediates : MemOp → List Byte
  | .hl => []
  | .bc => []
  | .de => []
  | .hlInc => []
  | .hlDec => []
  | .direct a => [loByte a, hiByte a]
  | .high v => [v]
  | .highC => []

/-- The immediate bytes that a source brings (R78). -/
def Src.immediates : Src → List Byte
  | .reg _ => []
  | .mem m => m.immediates
  | .d8 v => [v]

/-- The immediate bytes that a target brings (R78). -/
def Dst.immediates : Dst → List Byte
  | .reg _ => []
  | .mem m => m.immediates

/-- The bytes that follow the opcode byte of a variant: its immediates, at ascending addresses (R70, R78). Of the two
sides of an encodable load, at most one brings any. -/
def Variant.immediates : Variant → List Byte
  | .nop => []
  | .alu _ src => src.immediates
  | .addHL _ => []
  | .addSP e => [e]
  | .jp _ a => [loByte a, hiByte a]
  | .load8 dst src => dst.immediates ++ src.immediates
  | .loadPair _ v => [loByte v, hiByte v]
  | .storeSP a => [loByte a, hiByte a]
  | .loadSPHL => []
  | .loadHLSP e => [e]
  | .push _ => []
  | .pop _ => []
  | .call _ a => [loByte a, hiByte a]
  | .ret _ => []

/-- The bytes after the opcode byte: the immediates, or the second byte of a prefixed opcode (R70). -/
def Instr.operands (i : Instr) : List Byte :=
  match i.variant with
  | some v => v.immediates
  | none => i.secondByte.toList

/-- The words (bytes) of an instruction, in ascending address order (R70). -/
def encode (i : Instr) : List Byte := i.opcode :: i.operands

/-- `len`: 1 plus the number of immediate bytes (R72). -/
def Instr.len (i : Instr) : Nat := 1 + i.operands.length

/-- Field `ddd` or `sss` of a register (R74). -/
def Reg8.field : Reg8 → Byte
  | .b => 0 | .c => 1 | .d => 2 | .e => 3 | .h => 4 | .l => 5 | .a => 7

/-- Field `pp`, table rp (R75). -/
def Rp.field : Rp → Byte
  | .bc => 0 | .de => 1 | .hl => 2 | .sp => 3

/-- Field `pp`, table rp2 (R75). -/
def Pair.field : Pair → Byte
  | .bc => 0 | .de => 1 | .hl => 2 | .af => 3

/-- Field `cc` (R76); Always has no field value. -/
def Cond.field : Cond → Option Byte
  | .nz => some 0 | .z => some 1 | .nc => some 2 | .c => some 3 | .always => none

/-- Field `ooo` (R77). -/
def AluOp.field : AluOp → Byte
  | .add => 0 | .adc => 1 | .sub => 2 | .sbc => 3 | .and => 4 | .xor => 5 | .or => 6 | .cp => 7

/-- The byte `xx yyy zzz` of its three fields (R73). -/
def opcodeOfFields (x y z : Byte) : Byte := x <<< 6 ||| y <<< 3 ||| z

/-- The opcode byte of a load between A and a memory operand (R73); `none` for (HL), which any register uses. -/
def MemOp.accumulatorOpcode (store : Bool) : MemOp → Option Byte
  | .hl => none
  | .bc => some (if store then opcodeOfFields 0b00 0b000 0b010 else opcodeOfFields 0b00 0b001 0b010)
  | .de => some (if store then opcodeOfFields 0b00 0b010 0b010 else opcodeOfFields 0b00 0b011 0b010)
  | .hlInc => some (if store then opcodeOfFields 0b00 0b100 0b010 else opcodeOfFields 0b00 0b101 0b010)
  | .hlDec => some (if store then opcodeOfFields 0b00 0b110 0b010 else opcodeOfFields 0b00 0b111 0b010)
  | .direct _ => some (if store then opcodeOfFields 0b11 0b101 0b010 else opcodeOfFields 0b11 0b111 0b010)
  | .high _ => some (if store then opcodeOfFields 0b11 0b100 0b000 else opcodeOfFields 0b11 0b110 0b000)
  | .highC => some (if store then opcodeOfFields 0b11 0b100 0b010 else opcodeOfFields 0b11 0b110 0b010)

/-- The field value of an operand in table R74: a register's, or 110 for (HL). -/
def Src.field : Src → Option Byte
  | .reg r => some r.field
  | .mem m => if m = .hl then some 0b110 else none
  | .d8 _ => none

/-- The field value of a target in table R74. -/
def Dst.field : Dst → Option Byte
  | .reg r => some r.field
  | .mem m => if m = .hl then some 0b110 else none

/-- The opcode byte of a byte load by the field view: `00 ddd 110` with d8, `01 ddd sss` except 110 110, and the fixed
patterns of the loads between A and the other memory operands (R73, R91). -/
def loadOpcode (dst : Dst) (src : Src) : Option Byte :=
  match dst.field, src.field with
  | some t, some r => if t = 0b110 ∧ r = 0b110 then none else some (opcodeOfFields 0b01 t r)
  | some t, none =>
    match src with
    | .d8 _ => some (opcodeOfFields 0b00 t 0b110)
    | .mem m => if dst = .reg .a then m.accumulatorOpcode false else none
    | .reg _ => none
  | none, _ =>
    match dst with
    | .mem m => if src = .reg .a then m.accumulatorOpcode true else none
    | .reg _ => none

/-- The opcode byte of an ALU instruction by the field view: `10 ooo sss`, or `11 ooo 110` with d8 (R73). -/
def aluOpcode (op : AluOp) (src : Src) : Option Byte :=
  match src with
  | .reg r => some (opcodeOfFields 0b10 op.field r.field)
  | .mem m => if m = .hl then some (opcodeOfFields 0b10 op.field 0b110) else none
  | .d8 _ => some (opcodeOfFields 0b11 op.field 0b110)

/-- `11 0cc zzz`, or the fixed pattern of the unconditional form (R73, R76). -/
def conditionalOpcode (cc : Cond) (z always : Byte) : Byte :=
  match cc.field with
  | some f => opcodeOfFields 0b11 f z
  | none => always

/-- The opcode byte by the field view (R73); `none` where the view has no pattern. -/
def Variant.fieldOpcode : Variant → Option Byte
  | .nop => some (opcodeOfFields 0b00 0b000 0b000)
  | .alu op src => aluOpcode op src
  | .addHL rr => some (opcodeOfFields 0b00 (rr.field <<< 1 ||| 1) 0b001)
  | .addSP _ => some (opcodeOfFields 0b11 0b101 0b000)
  | .jp cc _ => some (conditionalOpcode cc 0b010 (opcodeOfFields 0b11 0b000 0b011))
  | .load8 dst src => loadOpcode dst src
  | .loadPair rr _ => some (opcodeOfFields 0b00 (rr.field <<< 1) 0b001)
  | .storeSP _ => some (opcodeOfFields 0b00 0b001 0b000)
  | .loadSPHL => some (opcodeOfFields 0b11 0b111 0b001)
  | .loadHLSP _ => some (opcodeOfFields 0b11 0b111 0b000)
  | .push p => some (opcodeOfFields 0b11 (p.field <<< 1) 0b101)
  | .pop p => some (opcodeOfFields 0b11 (p.field <<< 1) 0b001)
  | .call cc _ => some (conditionalOpcode cc 0b100 (opcodeOfFields 0b11 0b001 0b101))
  | .ret cc => some (conditionalOpcode cc 0b000 (opcodeOfFields 0b11 0b001 0b001))

/-! ### The decode table, byte lists, table words -/

/-- An entry of the decode table: instruction, length in bytes, cycle count (R79). -/
structure Entry where
  instr : Instr
  len : Nat
  cycles : Nat
  deriving DecidableEq, Repr

/-- The entry's declared length is 1 plus the immediate bytes its instruction consumes (R72). -/
def Entry.wf (entry : Entry) : Bool := entry.instr.wf && entry.len == 1 + entry.instr.operands.length

/-- `decode(opcode_byte, prefixed)` (R79): an entry on the 193 assigned bytes, none on every other pair, the whole
prefixed table among them (R86, R87). `b1`, `b2` are the bytes an immediate is taken from, and decide nothing else. -/
def decodeEntry (opcode : Byte) (prefixed : Bool) (b1 b2 : Byte) : Option Entry :=
  if prefixed then none
  else
    let i := decodeAt opcode b1 b2
    if i.wf then some ⟨i, i.len, Config.baseCycles opcode prefixed⟩ else none

/-- Why a list of bytes holds no whole instruction. -/
inductive DecodeError where
  /-- There is no byte. -/
  | noOpcode
  /-- The bytes end before the operands of this opcode do. -/
  | missingOperand (opcode : Byte)
  deriving DecidableEq, Repr

/-- Decode the first instruction of a list of bytes, and give the bytes after it. -/
def decode : List Byte → Except DecodeError (Instr × List Byte)
  | [] => .error .noOpcode
  | b0 :: rest =>
    match (decodeAt b0 0 0).operands.length, rest with
    | 0, _ => .ok (decodeAt b0 0 0, rest)
    | 1, b1 :: more => .ok (decodeAt b0 b1 0, more)
    | 2, b1 :: b2 :: more => .ok (decodeAt b0 b1 b2, more)
    | _, _ => .error (.missingOperand b0)

/-- The bytes of a table word: bit 0 is bit 0 of the first byte; every bit above `nbits` is 0. -/
def tableBytes (nbits w : Nat) : List Byte :=
  let v := w % 2 ^ nbits
  [byteOf v 0, byteOf v 1, byteOf v 2]

/-- What the decoder reads from a word of the opcode table. -/
def decodeTableWord (nbits w : Nat) : Option Instr :=
  match decode (tableBytes nbits w) with
  | .ok (i, _) => some i
  | .error _ => none

end Sys2Proof
end

