-- ==== Sys2Proof/Machine/Fetch.lean ====
section
/-! DEFINITION. Fetch and decode, the first half of a step (30_encoding.md R71), and placing a program's bytes where
the next fetch reads them. -/

namespace Sys2Proof.Machine

/-- The longest instruction's bytes at PC, PC + 1, PC + 2, modulo 65,536 (R16, R59, R70). -/
def State.bytesAtPC (s : State) : List Byte :=
  [s.readByte s.pc, s.readByte (s.pc + 1), s.readByte (s.pc + 2)]

/-- The instruction at PC (R71): the byte at PC, and the bytes after it where the row uses them. -/
def State.fetch (s : State) : Instr :=
  decodeAt (s.readByte s.pc) (s.readByte (s.pc + 1)) (s.readByte (s.pc + 2))

/-- Store bytes at ascending addresses, modulo 65,536. -/
def State.placeBytes (s : State) (addr : Word) : List Byte → State
  | [] => s
  | v :: vs => (s.writeByte addr v).placeBytes (addr + 1) vs

end Sys2Proof.Machine
end

