-- ==== Sys2Proof/Machine/Step.lean ====
section
/-! DEFINITION. The step (00_scope.md R6, 30_encoding.md R71, 60_exceptions.md R243). -/

namespace Sys2Proof.Machine

/-- One full instruction: fetch, decode, execute, retire (R71). A Faulted machine has no step (R243). -/
def step (s : State) : Host.Outcome State Fault Refusal :=
  match s.status with
  | .running => exec s.fetch s
  | .faulted report => .fault (.halted report)

/-- `s` with a table word stored at PC, where `step` fetches next; nothing else changes. The machine must be Running
for the step to take it: a Faulted one stays Faulted (R246; log entry 16). -/
def State.withFetchWord (s : State) (nbits w : Nat) : State := s.placeBytes s.pc (tableBytes nbits w)

end Sys2Proof.Machine
end

