-- ==== Sys2Proof/Machine/Bus.lean ====
section
/-! DEFINITION. The bus view of a step: the ordered list of byte accesses it makes (20_memory.md R48, R59, and the "bus:"
columns of 95_test_vectors.md). It is a function of the state before the step, not state (R26): `exec` does not read it.
Every access of the flat bus is one byte (R47). -/

namespace Sys2Proof.Machine

/-- One bus access: address and byte moved. -/
inductive Access where
  | read (addr : Word) (v : Byte)
  | write (addr : Word) (v : Byte)
  deriving DecidableEq, Repr

/-- Reading a byte of the state. -/
def State.readAccess (s : State) (addr : Word) : Access := .read addr (s.readByte addr)

/-- A push: high byte at SP - 1 first, then low byte at SP - 2 (R48, R212). -/
def State.pushAccesses (s : State) (v : Word) : List Access :=
  [.write (s.sp - 1) (hiByte v), .write (s.sp - 2) (loByte v)]

/-- A pop: low byte at SP first, then high byte at SP + 1 (R48, R215). -/
def State.popAccesses (s : State) : List Access := [s.readAccess s.sp, s.readAccess (s.sp + 1)]

/-- Reading a source operand: one read if it is in memory (R48). -/
def State.srcAccesses (s : State) : Src → List Access
  | .reg _ => []
  | .mem m => [s.readAccess (s.addrOf m)]
  | .d8 _ => []

/-- Writing a target operand: one write if it is in memory (R48). -/
def State.dstAccesses (s : State) (v : Byte) : Dst → List Access
  | .reg _ => []
  | .mem m => [.write (s.addrOf m) v]

/-- The data accesses of a variant, in order (R48). -/
def State.dataAccesses (s : State) : Variant → List Access
  | .nop => []
  | .alu _ src => s.srcAccesses src
  | .addHL _ => []
  | .addSP _ => []
  | .jp _ _ => []
  | .load8 dst src => s.srcAccesses src ++ s.dstAccesses (s.readSrc src) dst
  | .loadPair _ _ => []
  | .storeSP addr => [.write addr (loByte s.sp), .write (addr + 1) (hiByte s.sp)]
  | .loadSPHL => []
  | .loadHLSP _ => []
  | .push p => s.pushAccesses (s.pair p)
  | .pop _ => s.popAccesses
  | .call cc _ => if cc.holds s.f then s.pushAccesses (s.pc + 3) else []
  | .ret cc => if cc.holds s.f then s.popAccesses else []

/-- The immediate bytes are read, except by a conditional JP or CALL that is not taken (R59). -/
def State.readsImmediates (s : State) : Variant → Bool
  | .jp cc _ => cc.holds s.f
  | .call cc _ => cc.holds s.f
  | _ => true

/-- The immediate bytes, at ascending addresses from PC + 1 (R59). -/
def State.immediateAccesses (s : State) (v : Variant) : List Access :=
  if s.readsImmediates v then
    (List.range v.immediates.length).map fun k => s.readAccess (s.pc + 1 + BitVec.ofNat 16 k)
  else []

/-- All accesses of one step in order: the opcode byte; the byte after a prefix; the immediates; the data (R59). -/
def State.busAccesses (s : State) : List Access :=
  match s.status with
  | .faulted _ => []
  | .running =>
    s.readAccess s.pc ::
      match s.fetch.variant with
      | some v => s.immediateAccesses v ++ s.dataAccesses v
      | none => (s.fetch.secondByte.map fun _ => s.readAccess (s.pc + 1)).toList

/-- The memory after a list of accesses, its writes performed in order. -/
def Memory.replay : Memory → List Access → Memory
  | m, [] => m
  | m, .read _ _ :: rest => Memory.replay m rest
  | m, .write addr v :: rest => Memory.replay (m.write addr.toNat v) rest

end Sys2Proof.Machine
end

