-- ==== Sys2Proof/Machine/Reset.lean ====
section
/-! DEFINITION. Reset with the OPEN parameters of the spec as arguments (10_state.md R25, 70_reset_and_hazards.md R270).
`State.reset` is this at the defaults (`construct_default` in Laws/Run.lean). A program is loaded by RESET_MEM (R271). -/

namespace Sys2Proof.Machine

/-- RESET_A to RESET_MEM with the spec's defaults (R25). -/
structure ResetParams where
  a : Byte := Config.resetA
  b : Byte := Config.resetB
  c : Byte := Config.resetC
  d : Byte := Config.resetD
  e : Byte := Config.resetE
  h : Byte := Config.resetH
  l : Byte := Config.resetL
  f : Flags := ⟨Config.resetZ, Config.resetN, Config.resetHalf, Config.resetCarry⟩
  sp : Word := Config.resetSP
  pc : Word := Config.resetPC
  /-- RESET_MEM: a function from address to byte. -/
  mem : Word → Byte := fun _ => Config.unlistedByte

/-- The construction of the machine's first state, outside `step` (R270). -/
def State.construct (p : ResetParams) : State where
  a := p.a
  b := p.b
  c := p.c
  d := p.d
  e := p.e
  h := p.h
  l := p.l
  f := p.f
  sp := p.sp
  pc := p.pc
  mem := Memory.ofFun p.mem
  status := .running

end Sys2Proof.Machine
end

