-- ==== Sys2Proof/Safety.lean ====
section
/-! DEFINITION. What counts as a safe run, and the invariant of the machine. -/

namespace Sys2Proof.Machine

/-- A run of `k` steps is safe when every step was taken and the machine is Running after it: a Faulted state is never
a successful end of a run (60_exceptions.md R243). DESIGN CHOICE (log entry 22): the end of a run is a number of steps; R262
leaves it to the model. -/
def State.safeRun (s : State) (k : Nat) : Prop :=
  ∃ t, Sys2Proof.core.run k s = .next t ∧ t.status = .running

/-- The report of a Faulted machine agrees with what stands at PC (60_exceptions.md R240, R245): an unassigned byte, or
the prefix escape and the reported byte after it; and it is never OutOfRange on the flat bus (R241, 20_memory.md R52). -/
def State.reportAgrees (s : State) : Prop :=
  match s.status with
  | .running => True
  | .faulted (.unknownOpcode op false) =>
    s.readByte s.pc = op ∧ op ≠ Config.prefixByte ∧ (decodeEntry op false 0 0).isNone
  | .faulted (.unknownOpcode op true) => s.readByte s.pc = Config.prefixByte ∧ s.readByte (s.pc + 1) = op
  | .faulted (.outOfRange _) => False

/-- The invariant: the memory is in canonical form, and a fault report agrees with the bytes at PC. -/
structure State.Inv (s : State) : Prop where
  memory : s.mem.wf = true
  report : s.reportAgrees

end Sys2Proof.Machine
end

