-- ==== Sys2Proof/Certificates/Slice0/Obligations.lean ====
section
/-! DEFINITION. The statements for the provers. A statement about an instruction gives, for every state, the whole next
state (so everything not named is unchanged), the instruction's bytes, and the step that those bytes at PC make.

Opcode bytes, in every statement that names one, are those of R81: the spec takes all but 0x00 and 0xCB by its own decision
D1 (log entry 4). Where a docstring names another decision of the spec (D<n>) or a log entry, that clause rests on it. -/

open Sys2Proof Sys2Proof.Machine

namespace Sys2Proof.Statements

/-- The instruction is encoded as `bytes`, and a Running machine with these bytes at PC steps from `s` to `t`: what the
rules write as Encoding, `len` and `MemRead(PC + 1, ...)`. -/
def EncodedStep (i : Instr) (bytes : List Byte) (s t : State) : Prop :=
  encode i = bytes ∧ (s.status = .running → bytes <+: s.bytesAtPC → step s = .next t)

/-- The operand of an ALU instruction (R125): a register, the byte at HL, or the immediate. -/
def aluOperand (s : State) : Src → Byte
  | .reg r => s.reg r
  | .mem _ => s.readByte (mkWord s.h s.l)
  | .d8 v => v

/-- The bytes of an ALU instruction: `10 ooo sss`, or `11 ooo 110` and the immediate (R101 to R124, R74). -/
def aluBytes (block imm : Byte) : Src → List Byte
  | .reg r => [block ||| r.field]
  | .mem _ => [block ||| 6]
  | .d8 v => [imm, v]

/-- Where an ALU instruction leaves PC. -/
def aluPC (s : State) : Src → Word
  | .d8 _ => s.pc + 2
  | _ => s.pc + 1

/-- The carry flag as a number: the carry-in of ADC, the borrow-in of SBC. -/
def carryIn (s : State) : Nat := if s.f.c then 1 else 0

/-- The second operand of ADD HL,rr (R140, R13). -/
def addHLOperand (s : State) : Rp → Word
  | .bc => mkWord s.b s.c
  | .de => mkWord s.d s.e
  | .hl => mkWord s.h s.l
  | .sp => s.sp

/-- The four conditions with a field (R150), as a table. -/
def conditionHolds : Cond → Flags → Bool
  | .nz, f => f.z == false
  | .z, f => f.z
  | .nc, f => f.c == false
  | .c, f => f.c
  | .always, _ => true

/-- A pair's value, high byte first (R13). -/
def pairValue (s : State) : Pair → Word
  | .bc => mkWord s.b s.c
  | .de => mkWord s.d s.e
  | .hl => mkWord s.h s.l
  | .af => mkWord s.a s.f.pack

/-- The word `v` on the stack below `sp`: high byte written first at SP - 1, then the low byte at SP - 2 (R212). -/
def pushed (s : State) (v : Word) : Memory :=
  (s.mem.write (s.sp - 1).toNat (hiByte v)).write (s.sp - 2).toNat (loByte v)

/-- The word on top of the stack: low byte at SP, high byte at SP + 1 (R215). -/
def stackTop (s : State) : Word := mkWord (s.readByte (s.sp + 1)) (s.readByte s.sp)

/-- The 62 unassigned bytes, as R86 lists them. -/
def unassignedBytes : List Byte :=
  [0x03, 0x04, 0x05, 0x07, 0x0B, 0x0C, 0x0D, 0x0F,
   0x10, 0x13, 0x14, 0x15, 0x17, 0x18, 0x1B, 0x1C, 0x1D, 0x1F] ++
  [0x20, 0x23, 0x24, 0x25, 0x27, 0x28, 0x2B, 0x2C, 0x2D, 0x2F,
   0x30, 0x33, 0x34, 0x35, 0x37, 0x38, 0x3B, 0x3C, 0x3D, 0x3F] ++
  [0x76, 0xC7, 0xCF, 0xD3, 0xD7, 0xD9, 0xDB, 0xDD, 0xDF,
   0xE3, 0xE4, 0xE7, 0xE9, 0xEB, 0xEC, 0xED, 0xEF,
   0xF3, 0xF4, 0xF7, 0xFB, 0xFC, 0xFD, 0xFF]

/-- The post-increment and post-decrement forms adjust HL. -/
def adjusts : MemOp → Bool
  | .hlInc => true
  | .hlDec => true
  | _ => false

/-- The registers of a memory operand that a load through it writes: H and L, if it adjusts HL. -/
def memWrites (r : Reg8) (m : MemOp) : Bool := adjusts m && (r == .h || r == .l)

/-- The registers a source makes a load write. -/
def srcWrites (r : Reg8) : Src → Bool
  | .reg _ => false
  | .mem m => memWrites r m
  | .d8 _ => false

/-- The registers a target makes a load write. -/
def dstWrites (r : Reg8) : Dst → Bool
  | .reg t => r == t
  | .mem m => memWrites r m

/-- The registers in an entry of table rp. -/
def rpWrites (r : Reg8) : Rp → Bool
  | .bc => r == .b || r == .c
  | .de => r == .d || r == .e
  | .hl => r == .h || r == .l
  | .sp => false

/-- The general registers in a pair; the other half of AF is the flags. -/
def pairWrites (r : Reg8) : Pair → Bool
  | .bc => r == .b || r == .c
  | .de => r == .d || r == .e
  | .hl => r == .h || r == .l
  | .af => r == .a

/-- The "Written by" column of R18 for the seven general registers. -/
def writesRegister (r : Reg8) : Variant → Bool
  | .nop => false
  | .alu op _ => r == .a && op != .cp
  | .addHL _ => r == .h || r == .l
  | .addSP _ => false
  | .jp _ _ => false
  | .load8 dst src => dstWrites r dst || srcWrites r src
  | .loadPair rr _ => rpWrites r rr
  | .storeSP _ => false
  | .loadSPHL => false
  | .loadHLSP _ => r == .h || r == .l
  | .push _ => false
  | .pop p => pairWrites r p
  | .call _ _ => false
  | .ret _ => false

/-- The "Written by" column of R18 for SP, in a state: a CALL or RET writes it when taken. -/
def writesSP (s : State) : Variant → Bool
  | .nop => false
  | .alu _ _ => false
  | .addHL _ => false
  | .addSP _ => true
  | .jp _ _ => false
  | .load8 _ _ => false
  | .loadPair rr _ => rr == .sp
  | .storeSP _ => false
  | .loadSPHL => true
  | .loadHLSP _ => false
  | .push _ => true
  | .pop _ => true
  | .call cc _ => conditionHolds cc s.f
  | .ret cc => conditionHolds cc s.f

/-- The instructions that R19 and R27 give a flag effect. -/
def writesFlags : Variant → Bool
  | .nop => false
  | .alu _ _ => true
  | .addHL _ => true
  | .addSP _ => true
  | .jp _ _ => false
  | .load8 _ _ => false
  | .loadPair _ _ => false
  | .storeSP _ => false
  | .loadSPHL => false
  | .loadHLSP _ => true
  | .push _ => false
  | .pop p => p == .af
  | .call _ _ => false
  | .ret _ => false

/-- A load's target is in memory. -/
def isMemory : Dst → Bool
  | .reg _ => false
  | .mem _ => true

/-- The variants that store to memory (R48). -/
def stores : Variant → Bool
  | .nop => false
  | .alu _ _ => false
  | .addHL _ => false
  | .addSP _ => false
  | .jp _ _ => false
  | .load8 dst _ => isMemory dst
  | .loadPair _ _ => false
  | .storeSP _ => true
  | .loadSPHL => false
  | .loadHLSP _ => false
  | .push _ => true
  | .pop _ => false
  | .call _ _ => true
  | .ret _ => false

/-- An access that reads. -/
def Access.isRead : Access → Bool
  | .read _ _ => true
  | .write _ _ => false

end Sys2Proof.Statements

open Sys2Proof.Statements

/-! ### Encoding and decoding -/

/-- Words written out from R73 to R77 and R81 decode to the instructions they stand for, one of each family. The last two
words have no instruction in the spec (R71, R86, R87, R91; its decision D2): that they decode to the constructors
`unassigned_76` and `prefix_cb` is the model's form (log entry 5). -/
def Obligations.SampleWordsDecode : Prop :=
  decode [0b00000000] = .ok (.nop, []) ∧
  decode [0b10000000] = .ok (.add_a_b, []) ∧
  decode [0b11111110, 0x80] = .ok (.cp_d8 0x80, []) ∧
  decode [0b00101001] = .ok (.add_hl_hl, []) ∧
  decode [0b11101000, 0xF8] = .ok (.add_sp_e8 0xF8, []) ∧
  decode [0b11000011, 0x34, 0x12] = .ok (.jp_a16 0x1234, []) ∧
  decode [0b01110100, 0xAA] = .ok (.ld_mhl_h, [0xAA]) ∧
  decode [0b00110001, 0xFE, 0xFF] = .ok (.ld_sp_d16 0xFFFE, []) ∧
  decode [0b11110101] = .ok (.push_af, []) ∧
  decode [0b11011100, 0x00, 0x30] = .ok (.call_c_a16 0x3000, []) ∧
  decode [0b11011000] = .ok (.ret_c, []) ∧
  decode [0b01110110] = .ok (.unassigned_76, []) ∧
  decode [0xCB, 0x37] = .ok (.prefix_cb 0x37, [])

/-- Decoding the bytes of any instruction, whatever follows them, gives it back with every operand, and the rest. -/
def Obligations.DecodeOfEncodeGivesInstructionBack : Prop :=
  ∀ (i : Instr) (rest : List Byte), decode (encode i ++ rest) = .ok (i, rest)

/-- What the decoder reads from a list of bytes is encoded as exactly the bytes it took. -/
def Obligations.EncodeOfDecodeGivesBytesBack : Prop :=
  ∀ (bytes rest : List Byte) (i : Instr), decode bytes = .ok (i, rest) → encode i ++ rest = bytes

/-- The field view of the opcode byte agrees with the opcode map on every assigned instruction (R73 to R77). -/
def Obligations.FieldViewAgreesWithOpcodeMap : Prop :=
  ∀ (i : Instr) (v : Variant), i.variant = some v → v.fieldOpcode = some i.opcode

/-- The variants with an encoding are exactly those of the assigned instructions, one instruction each (R81, R90, R125,
R160: "The pairs that exist are exactly the rules R161 to R179"). -/
def Obligations.EncodableVariantsAreTheAssignedInstructions : Prop :=
  (∀ v : Variant, v.wf = true ↔ ∃ i : Instr, i.variant = some v) ∧
  (∀ (i j : Instr) (v : Variant), i.variant = some v → j.variant = some v → i = j)

/-- The decode table: none exactly on the 62 bytes of R86 and the prefix, and on the whole prefixed table (R87); 193
unprefixed bytes are assigned (R80). That these bytes have no instruction is the spec's decision D2. -/
def Obligations.UnassignedBytesHaveNoEntry : Prop :=
  (∀ op b1 b2 : Byte, decodeEntry op false b1 b2 = none ↔ op ∈ unassignedBytes ∨ op = 0xCB) ∧
  (∀ op b1 b2 : Byte, decodeEntry op true b1 b2 = none) ∧
  ((List.range 256).filter fun k => (decodeEntry (BitVec.ofNat 8 k) false 0 0).isSome).length = 193

/-- An entry's length is one, two or three, is decided by the opcode byte alone, and is 1 plus the immediate bytes of its
instruction, so that it is the length of the instruction's encoding (R72, R79; the lengths are the spec's decision D17). -/
def Obligations.DeclaredLengthMatchesImmediates : Prop :=
  ∀ (op b1 b2 : Byte) (entry : Entry), decodeEntry op false b1 b2 = some entry →
    entry.len = 1 + entry.instr.operands.length ∧ entry.len = (encode entry.instr).length ∧
    1 ≤ entry.len ∧ entry.len ≤ 3 ∧
    ∀ b1' b2' : Byte, ∃ entry', decodeEntry op false b1' b2' = some entry' ∧ entry'.len = entry.len

/-! ### The step -/

/-- A Running machine whose bytes at PC decode to an instruction runs that instruction's meaning. This step adds nothing
around `exec`: moving PC is part of each meaning. -/
def Obligations.StepRunsTheDecodedInstruction : Prop :=
  ∀ (s : State) (i : Instr) (rest : List Byte), s.status = .running → decode s.bytesAtPC = .ok (i, rest) →
    step s = exec i s

/-- The fetch and decode of R71: the prefix escape takes a second byte and raises with it; an opcode without an entry
raises with the opcode; an entry's instruction is executed. That the prefix always raises is R87, the spec's decision D2 (log
entry 5); that raising changes the run status and nothing else is R243 with R245, which the spec derives and decides (D15, log
entry 3). -/
def Obligations.StepFollowsFetchAndDecode : Prop :=
  ∀ s : State, s.status = .running →
    (s.readByte s.pc = 0xCB →
      step s = .next { s with status := .faulted (.unknownOpcode (s.readByte (s.pc + 1)) true) }) ∧
    (s.readByte s.pc ≠ 0xCB →
      decodeEntry (s.readByte s.pc) false (s.readByte (s.pc + 1)) (s.readByte (s.pc + 2)) = none →
      step s = .next { s with status := .faulted (.unknownOpcode (s.readByte s.pc) false) }) ∧
    (∀ entry : Entry,
      decodeEntry (s.readByte s.pc) false (s.readByte (s.pc + 1)) (s.readByte (s.pc + 2)) = some entry →
      step s = exec entry.instr s)

/-- A Running machine always steps: no step of it stops with a fault or a refusal, whatever the state. -/
def Obligations.RunningMachineAlwaysSteps : Prop :=
  ∀ s : State, s.status = .running → ∃ t, step s = .next t

/-- The effect of a fatal condition (R243, R245). However many steps led to it: the step that made the machine Faulted changed the
run status, which holds the report, and nothing else (nothing saved, nothing pushed, PC not assigned); the machine then has
no step, and every longer run stops with the same report. That every register, flag and memory byte keeps its value is R245,
which the spec derives and decides (D15); that a step which does not exist is the outcome `fault` is log entry 3. -/
def Obligations.FaultedIsTerminal : Prop :=
  ∀ (s t : State) (r : FatalCondition) (k n : Nat),
    Sys2Proof.core.run k s = .next t → t.status = .faulted r →
    (∀ u, step u = .next t → t = { u with status := .faulted r }) ∧
    step t = .fault (.halted r) ∧ Sys2Proof.core.run (k + n + 1) s = .fault (.halted r)

/-- A step ends Running, or it raised UnknownOpcode and changed nothing but the status: OutOfRange is never raised on the
flat bus, and a fatal condition is precise (R52, R244, R245, which the spec derives; MEM_SIZE is its decision D8). -/
def Obligations.OnlyUnknownOpcodeIsRaisedAndPrecisely : Prop :=
  ∀ s t : State, step s = .next t →
    t.status = .running ∨
    ∃ (op : Byte) (prefixed : Bool), t = { s with status := .faulted (.unknownOpcode op prefixed) }

/-- Every step keeps the invariant: canonical memory, and a fault report that agrees with the bytes at PC and is never
OutOfRange. -/
def Obligations.StepKeepsInvariant : Prop :=
  ∀ s t : State, s.Inv → step s = .next t → t.Inv

/-- The reset state meets the invariant. -/
def Obligations.ResetMeetsInvariant : Prop := State.reset.Inv

/-- A byte stored at the address of the next instruction is its opcode byte: the very next fetch sees the store (R56, which
the spec derives). -/
def Obligations.StoreIsSeenByNextFetch : Prop :=
  ∀ (i : Instr) (m : MemOp) (r : Reg8) (s t : State), i.variant = some (.load8 (.mem m) (.reg r)) →
    exec i s = .next t → s.addrOf m = t.pc → t.fetch.opcode = s.reg r

/-- Where each instruction leaves PC (R17): past its bytes, or at the target of a taken JP or CALL, or at the word popped by
a taken RET; a fatal condition does not assign it. -/
def Obligations.NextPCOfEveryInstruction : Prop :=
  ∀ (i : Instr) (s t : State), exec i s = .next t →
    match i.variant with
    | none => t.pc = s.pc
    | some (.jp cc a) => t.pc = if conditionHolds cc s.f then a else s.pc + 3
    | some (.call cc a) => t.pc = if conditionHolds cc s.f then a else s.pc + 3
    | some (.ret cc) => t.pc = if conditionHolds cc s.f then stackTop s else s.pc + 1
    | some v => t.pc = s.pc + BitVec.ofNat 16 (1 + v.immediates.length)

/-! ### Fatal conditions -/

/-- The 62 unassigned instructions (the constructors `unassigned_03` to `unassigned_ff`) take UnknownOpcode with their own
byte: the status becomes Faulted with the report, and nothing else changes (R86, R240, R243, R245). That they have no
instruction is the spec's decision D2. -/
def Obligations.UnassignedInstructionsRaiseUnknownOpcode : Prop :=
  ∀ (i : Instr) (s : State), i.variant = none → i.secondByte = none →
    let t := { s with status := .faulted (.unknownOpcode i.opcode false) }
    exec i s = .next t ∧ i.opcode ∈ unassignedBytes ∧ EncodedStep i [i.opcode] s t

/-- The prefix escape with any byte after it takes UnknownOpcode with that byte and the prefixed mark (R87, R240). That the
prefixed table is empty is the spec's decision D2. -/
def Obligations.PrefixRaisesUnknownOpcode : Prop :=
  ∀ (op : Byte) (s : State),
    let t := { s with status := .faulted (.unknownOpcode op true) }
    exec (.prefix_cb op) s = .next t ∧ EncodedStep (.prefix_cb op) [0xCB, op] s t

/-! ### State -/

/-- Pairs are views, high byte first; writing one writes both halves; for AF the low nibble is ignored (R13, R14, R24). -/
def Obligations.PairsAreViewsOfRegisters : Prop :=
  ∀ (s : State) (v : Word),
    (s.pair .bc = mkWord (s.reg .b) (s.reg .c) ∧ s.pair .de = mkWord (s.reg .d) (s.reg .e) ∧
      s.pair .hl = mkWord (s.reg .h) (s.reg .l) ∧ s.pair .af = mkWord (s.reg .a) s.f.pack) ∧
    s.setPair .bc v = (s.setReg .b (hiByte v)).setReg .c (loByte v) ∧
    s.setPair .de v = (s.setReg .d (hiByte v)).setReg .e (loByte v) ∧
    s.setPair .hl v = (s.setReg .h (hiByte v)).setReg .l (loByte v) ∧
    s.setPair .af v = { s.setReg .a (hiByte v) with
      f := ⟨v.getLsbD 7, v.getLsbD 6, v.getLsbD 5, v.getLsbD 4⟩ } ∧
    (∀ p, p ≠ .af → (s.setPair p v).pair p = v) ∧ (s.setPair .af v).pair .af = v &&& 0xFFF0 ∧
    s.f.pack &&& 0x0F = 0

/-- The packed flags byte: bit 7 zero, 6 subtract, 5 half-carry, 4 carry, 3 to 0 always zero; packing and unpacking undo
each other on the bits that exist (R12). -/
def Obligations.FlagsByteLayout : Prop :=
  (∀ f : Flags, f.pack.getLsbD 7 = f.z ∧ f.pack.getLsbD 6 = f.n ∧ f.pack.getLsbD 5 = f.h ∧ f.pack.getLsbD 4 = f.c ∧
    f.pack &&& 0x0F = 0 ∧ Flags.unpack f.pack = f) ∧
  (∀ v : Byte, (Flags.unpack v).pack = v &&& 0xF0)

/-- Byte and word accesses at any address, odd, even or at the top (R41 to R46): a read returns what was last written, a
write leaves every other byte, a word is little-endian with the second address modulo 65,536. The word read as two byte reads
is the spec's decision D12 (R44, log entry 6); the wrap of the second address is its own reading (R46, decision D9, log entry
7, unsafe at 0xFFFF). -/
def Obligations.MemoryReadsWhatWasWritten : Prop :=
  ∀ (s : State) (a b : Word) (v : Byte) (w : Word),
    (s.writeByte a v).readByte a = v ∧
    (b ≠ a → (s.writeByte a v).readByte b = s.readByte b) ∧
    s.readWord a = mkWord (s.readByte (a + 1)) (s.readByte a) ∧
    (s.writeWord a w).readByte a = loByte w ∧ (s.writeWord a w).readByte (a + 1) = hiByte w ∧
    (s.writeWord a w).readWord a = w ∧
    (b ≠ a → b ≠ a + 1 → (s.writeWord a w).readByte b = s.readByte b)

/-- The canonical form is canonical: two memories in it that read alike at every 16-bit address are equal. The form is the
model's choice (log entry 19, DESIGN CHOICE), no rule of the spec, which gives the 65,536 bytes it represents (R22). -/
def Obligations.EqualReadsMeanEqualMemories : Prop :=
  ∀ m m' : Memory, m.wf = true → m'.wf = true → (∀ a : Word, m.read a.toNat = m'.read a.toNat) → m = m'

/-- The bus checks an address against the declared space, and no 16-bit address is outside it (R52, R241). The size is the
spec's decision D8 (log entry 8); the number that OutOfRange records is D15. -/
def Obligations.OutOfRangeOnlyBeyondSixteenBits : Prop :=
  ∀ (m : Memory) (addr : Nat) (v : Byte),
    (busRead m addr = .error (.outOfRange addr) ↔ 65536 ≤ addr) ∧
    (busWrite m addr v = .error (.outOfRange addr) ↔ 65536 ≤ addr) ∧
    (∀ a : Word, busRead m a.toNat = .ok (m.read a.toNat) ∧ busWrite m a.toNat v = .ok (m.write a.toNat v))

/-- The reset state. Its zeros are the spec's default for OPEN parameters, a choice (log entries 1 and 2); that the status
is Running is not. -/
def Obligations.ResetStateIsTheDefault : Prop :=
  State.reset.status = .running ∧
  (∀ r : Reg8, State.reset.reg r = 0) ∧ State.reset.f = ⟨false, false, false, false⟩ ∧
  State.reset.sp = 0 ∧ State.reset.pc = 0 ∧ (∀ a : Word, State.reset.readByte a = 0)

/-- Reset gives every piece of state the value of its parameter, for any parameters, with canonical memory and status
Running (R270). That the first state is built from parameters with these defaults is the spec's decision D14 (log entries 1
and 2). -/
def Obligations.ResetTakesItsParameters : Prop :=
  ∀ p : ResetParams,
    let s := State.construct p
    s.a = p.a ∧ s.b = p.b ∧ s.c = p.c ∧ s.d = p.d ∧ s.e = p.e ∧ s.h = p.h ∧ s.l = p.l ∧ s.f = p.f ∧
    s.sp = p.sp ∧ s.pc = p.pc ∧ s.status = .running ∧ s.mem.wf = true ∧ (∀ a : Word, s.readByte a = p.mem a) ∧
    State.construct {} = State.reset

/-! ### Nop and the 8-bit ALU -/

/-- NOP advances PC by 1 and changes nothing else (R100; decision D3). -/
def Obligations.NopOnlyAdvancesPC : Prop :=
  ∀ s : State,
    let t := { s with pc := s.pc + 1 }
    exec .nop s = .next t ∧ EncodedStep .nop [0x00] s t

/-- ADD A,r; ADD A,(HL); ADD A,d8 (R101 to R103): constructors `add_a_b` to `add_a_a`, `add_a_mhl`, `add_a_d8`. -/
def Obligations.AddGivesSumAndCarries : Prop :=
  ∀ (i : Instr) (src : Src) (s : State), i.variant = some (.alu .add src) →
    let v := aluOperand s src
    let t := { s with
      a := s.a + v
      f := { z := decide ((s.a.toNat + v.toNat) % 256 = 0)
             n := false
             h := decide (s.a.toNat % 16 + v.toNat % 16 > 15)
             c := decide (s.a.toNat + v.toNat > 255) }
      pc := aluPC s src }
    exec i s = .next t ∧ EncodedStep i (aluBytes 0x80 0xC6 src) s t

/-- ADC A,r; ADC A,(HL); ADC A,d8 (R104 to R106): constructors `adc_a_b` to `adc_a_a`, `adc_a_mhl`, `adc_a_d8`. The carry-in
takes part in both carries (R104; the spec's decision D5, log entry 10). -/
def Obligations.AdcGivesSumWithCarryIn : Prop :=
  ∀ (i : Instr) (src : Src) (s : State), i.variant = some (.alu .adc src) →
    let v := aluOperand s src
    let t := { s with
      a := s.a + v + BitVec.ofNat 8 (carryIn s)
      f := { z := decide ((s.a.toNat + v.toNat + carryIn s) % 256 = 0)
             n := false
             h := decide (s.a.toNat % 16 + v.toNat % 16 + carryIn s > 15)
             c := decide (s.a.toNat + v.toNat + carryIn s > 255) }
      pc := aluPC s src }
    exec i s = .next t ∧ EncodedStep i (aluBytes 0x88 0xCE src) s t

/-- SUB r; SUB (HL); SUB d8 (R107 to R109): constructors `sub_b` to `sub_a`, `sub_mhl`, `sub_d8`. The borrow
formulas are those R107 gives, in R127 the spec's decision D11 (log entry 10). -/
def Obligations.SubGivesDifferenceAndBorrows : Prop :=
  ∀ (i : Instr) (src : Src) (s : State), i.variant = some (.alu .sub src) →
    let v := aluOperand s src
    let t := { s with
      a := s.a - v
      f := { z := decide (s.a = v)
             n := true
             h := decide (s.a.toNat % 16 < v.toNat % 16)
             c := decide (s.a.toNat < v.toNat) }
      pc := aluPC s src }
    exec i s = .next t ∧ EncodedStep i (aluBytes 0x90 0xD6 src) s t

/-- SBC A,r; SBC A,(HL); SBC A,d8 (R110 to R112): constructors `sbc_a_b` to `sbc_a_a`, `sbc_a_mhl`, `sbc_a_d8`. The
borrow-in takes part in both borrows (R110; in R127 the spec's decisions D5, D11, log entry 10). -/
def Obligations.SbcGivesDifferenceWithBorrowIn : Prop :=
  ∀ (i : Instr) (src : Src) (s : State), i.variant = some (.alu .sbc src) →
    let v := aluOperand s src
    let t := { s with
      a := s.a - v - BitVec.ofNat 8 (carryIn s)
      f := { z := decide (s.a = v + BitVec.ofNat 8 (carryIn s))
             n := true
             h := decide (s.a.toNat % 16 < v.toNat % 16 + carryIn s)
             c := decide (s.a.toNat < v.toNat + carryIn s) }
      pc := aluPC s src }
    exec i s = .next t ∧ EncodedStep i (aluBytes 0x98 0xDE src) s t

/-- AND r; AND (HL); AND d8 (R113 to R115): constructors `and_b` to `and_a`, `and_mhl`, `and_d8`. -/
def Obligations.AndSetsHalfCarry : Prop :=
  ∀ (i : Instr) (src : Src) (s : State), i.variant = some (.alu .and src) →
    let v := aluOperand s src
    let t := { s with
      a := s.a &&& v
      f := { z := decide (s.a &&& v = 0), n := false, h := true, c := false }
      pc := aluPC s src }
    exec i s = .next t ∧ EncodedStep i (aluBytes 0xA0 0xE6 src) s t

/-- XOR r; XOR (HL); XOR d8 (R116 to R118): constructors `xor_b` to `xor_a`, `xor_mhl`, `xor_d8`. Zero exactly when the
operand equals A. -/
def Obligations.XorClearsTheOtherFlags : Prop :=
  ∀ (i : Instr) (src : Src) (s : State), i.variant = some (.alu .xor src) →
    let v := aluOperand s src
    let t := { s with
      a := s.a ^^^ v
      f := { z := decide (s.a = v), n := false, h := false, c := false }
      pc := aluPC s src }
    exec i s = .next t ∧ EncodedStep i (aluBytes 0xA8 0xEE src) s t

/-- OR r; OR (HL); OR d8 (R119 to R121): constructors `or_b` to `or_a`, `or_mhl`, `or_d8`. Zero exactly when both are. -/
def Obligations.OrClearsTheOtherFlags : Prop :=
  ∀ (i : Instr) (src : Src) (s : State), i.variant = some (.alu .or src) →
    let v := aluOperand s src
    let t := { s with
      a := s.a ||| v
      f := { z := decide (s.a = 0 ∧ v = 0), n := false, h := false, c := false }
      pc := aluPC s src }
    exec i s = .next t ∧ EncodedStep i (aluBytes 0xB0 0xF6 src) s t

/-- CP r; CP (HL); CP d8 (R122 to R124): constructors `cp_b` to `cp_a`, `cp_mhl`, `cp_d8`. The flags of SUB; A is NOT
written (R122; the spec's decision D4). -/
def Obligations.CpComparesAndKeepsA : Prop :=
  ∀ (i : Instr) (src : Src) (s : State), i.variant = some (.alu .cp src) →
    let v := aluOperand s src
    let t := { s with
      f := { z := decide (s.a = v)
             n := true
             h := decide (s.a.toNat % 16 < v.toNat % 16)
             c := decide (s.a.toNat < v.toNat) }
      pc := aluPC s src }
    exec i s = .next t ∧ EncodedStep i (aluBytes 0xB8 0xFE src) s t

/-- The laws of the ALU functions (R128): results modulo 256, the carry as bit 8 of the nine-bit sum, the borrow as a
comparison, and the two identities. -/
def Obligations.AluFunctionLaws : Prop :=
  ∀ (a v : Byte) (ci : Bool),
    (add8 a v ci).res = a + v + BitVec.ofNat 8 ci.toNat ∧
    (add8 a v ci).flags.c = (a.setWidth 9 + v.setWidth 9 + BitVec.ofNat 9 ci.toNat).getLsbD 8 ∧
    (sub8 a v ci).res = a - v - BitVec.ofNat 8 ci.toNat ∧
    ((sub8 a v ci).flags.c = true ↔ a.toNat < v.toNat + ci.toNat) ∧
    sub8 a a false = ⟨0, ⟨true, true, false, false⟩⟩ ∧
    add8 a 0 false = ⟨a, ⟨decide (a = 0), false, false, false⟩⟩

/-! ### 16-bit arithmetic -/

/-- ADD HL,rr (R140): constructors `add_hl_bc`, `add_hl_de`, `add_hl_hl`, `add_hl_sp`. Half-carry out of bit 11 (R140; decision
D6); zero unchanged (R140; decision D10, log entry 9). -/
def Obligations.AddHLCarriesOutOfBits11And15 : Prop :=
  ∀ (i : Instr) (rr : Rp) (s : State), i.variant = some (.addHL rr) →
    let x := mkWord s.h s.l
    let y := addHLOperand s rr
    let t := { s with
      h := hiByte (x + y)
      l := loByte (x + y)
      f := { z := s.f.z
             n := false
             h := decide (x.toNat % 4096 + y.toNat % 4096 > 4095)
             c := decide (x.toNat + y.toNat > 65535) }
      pc := s.pc + 1 }
    exec i s = .next t ∧ EncodedStep i [0x09 ||| rr.field <<< 4] s t

/-- ADD SP,e8 and LD HL,SP+e8 (R141, R142, R205): the offset is signed, the carries are those of the unsigned addition of
the low bytes, zero and subtract are cleared; the second leaves SP. (Two's complement: decision D7, log entry 11.) -/
def Obligations.SPPlusSignedOffset : Prop :=
  ∀ (e : Byte) (s : State),
    let sum := BitVec.ofInt 16 (s.sp.toNat + e.toInt)
    let flags : Flags := { z := false
                           n := false
                           h := decide (s.sp.toNat % 16 + e.toNat % 16 > 15)
                           c := decide (s.sp.toNat % 256 + e.toNat > 255) }
    let t := { s with sp := sum, f := flags, pc := s.pc + 2 }
    let u := { s with h := hiByte sum, l := loByte sum, f := flags, pc := s.pc + 2 }
    exec (.add_sp_e8 e) s = .next t ∧ EncodedStep (.add_sp_e8 e) [0xE8, e] s t ∧
    exec (.ld_hl_sp_e8 e) s = .next u ∧ EncodedStep (.ld_hl_sp_e8 e) [0xF8, e] s u

/-! ### Jumps, calls, returns -/

/-- The conditions (R150), each against the flags of the state. -/
def Obligations.ConditionTable : Prop :=
  ∀ f : Flags, (Cond.holds .nz f = !f.z) ∧ (Cond.holds .z f = f.z) ∧ (Cond.holds .nc f = !f.c) ∧
    (Cond.holds .c f = f.c) ∧ (Cond.holds .always f = true)

/-- JP a16 (R151) and JP cc,a16 (R152): constructors `jp_a16`, `jp_nz_a16`, `jp_z_a16`, `jp_nc_a16`, `jp_c_a16`. -/
def Obligations.JumpTakesItsBranchOnTheCondition : Prop :=
  ∀ (i : Instr) (cc : Cond) (a : Word) (s : State), i.variant = some (.jp cc a) →
    let t := { s with pc := if conditionHolds cc s.f then a else s.pc + 3 }
    exec i s = .next t ∧
    EncodedStep i [match cc.field with | some k => 0xC2 ||| k <<< 3 | none => 0xC3, loByte a, hiByte a] s t

/-- CALL a16 (R220, R212) and CALL cc,a16 (R221): constructors `call_a16`, `call_nz_a16`, `call_z_a16`, `call_nc_a16`,
`call_c_a16`. The return address is PC + 3; not taken, nothing is pushed. That the target is the immediate as it stood before
the push, also where the push lands on it, is the spec's decision D12 (log entry 6). -/
def Obligations.CallPushesReturnAddressWhenTaken : Prop :=
  ∀ (i : Instr) (cc : Cond) (a : Word) (s : State), i.variant = some (.call cc a) →
    let t := if conditionHolds cc s.f
      then { s with sp := s.sp - 2, mem := pushed s (s.pc + 3), pc := a }
      else { s with pc := s.pc + 3 }
    exec i s = .next t ∧
    EncodedStep i [match cc.field with | some k => 0xC4 ||| k <<< 3 | none => 0xCD, loByte a, hiByte a] s t

/-- RET (R222) and RET cc (R223): constructors `ret`, `ret_nz`, `ret_z`, `ret_nc`, `ret_c`. Not taken, nothing is popped. -/
def Obligations.ReturnPopsPCWhenTaken : Prop :=
  ∀ (i : Instr) (cc : Cond) (s : State), i.variant = some (.ret cc) →
    let t := if conditionHolds cc s.f
      then { s with sp := s.sp + 2, pc := stackTop s }
      else { s with pc := s.pc + 1 }
    exec i s = .next t ∧
    EncodedStep i [match cc.field with | some k => 0xC0 ||| k <<< 3 | none => 0xC9] s t

/-- A taken CALL, then anything that leaves SP and the two stack bytes as the CALL left them, then a taken RET: SP is back
at its value before the CALL and PC at the CALL's address plus 3 (R224, which the spec derives). -/
def Obligations.ReturnUndoesCall : Prop :=
  ∀ (i j : Instr) (cc cc' : Cond) (a : Word) (s t u v : State),
    i.variant = some (.call cc a) → conditionHolds cc s.f = true → exec i s = .next t →
    u.sp = t.sp → u.readByte u.sp = t.readByte t.sp → u.readByte (u.sp + 1) = t.readByte (t.sp + 1) →
    j.variant = some (.ret cc') → conditionHolds cc' u.f = true → exec j u = .next v →
    v.sp = s.sp ∧ v.pc = s.pc + 3

/-! ### Byte loads -/

/-- LD r,r' (R161): the 49 constructors `ld_b_b` to `ld_a_a`. -/
def Obligations.LoadRegisterFromRegister : Prop :=
  ∀ (i : Instr) (r q : Reg8) (s : State), i.variant = some (.load8 (.reg r) (.reg q)) →
    let t := { s.setReg r (s.reg q) with pc := s.pc + 1 }
    exec i s = .next t ∧ EncodedStep i [0x40 ||| r.field <<< 3 ||| q.field] s t

/-- LD r,(HL) (R162) and LD (HL),r (R163): constructors `ld_b_mhl` to `ld_a_mhl`, `ld_mhl_b` to `ld_mhl_a`. The address is
formed before the load. -/
def Obligations.LoadAndStoreThroughHL : Prop :=
  ∀ (i : Instr) (r : Reg8) (s : State),
    (i.variant = some (.load8 (.reg r) (.mem .hl)) →
      let t := { s.setReg r (s.readByte (mkWord s.h s.l)) with pc := s.pc + 1 }
      exec i s = .next t ∧ EncodedStep i [0x46 ||| r.field <<< 3] s t) ∧
    (i.variant = some (.load8 (.mem .hl) (.reg r)) →
      let t := { s with mem := s.mem.write (mkWord s.h s.l).toNat (s.reg r), pc := s.pc + 1 }
      exec i s = .next t ∧ EncodedStep i [0x70 ||| r.field] s t)

/-- LD r,d8 (R164) and LD (HL),d8 (R165): constructors `ld_b_d8` to `ld_a_d8`, `ld_mhl_d8`. -/
def Obligations.LoadImmediateByte : Prop :=
  ∀ (i : Instr) (r : Reg8) (v : Byte) (s : State),
    (i.variant = some (.load8 (.reg r) (.d8 v)) →
      let t := { s.setReg r v with pc := s.pc + 2 }
      exec i s = .next t ∧ EncodedStep i [0x06 ||| r.field <<< 3, v] s t) ∧
    (let t := { s with mem := s.mem.write (mkWord s.h s.l).toNat v, pc := s.pc + 2 }
     exec (.ld_mhl_d8 v) s = .next t ∧ EncodedStep (.ld_mhl_d8 v) [0x36, v] s t)

/-- LD (BC),A; LD (DE),A; LD A,(BC); LD A,(DE) (R166 to R169): constructors `ld_mbc_a`, `ld_mde_a`, `ld_a_mbc`, `ld_a_mde`. -/
def Obligations.LoadAndStoreThroughBCAndDE : Prop :=
  ∀ s : State,
    (let t := { s with mem := s.mem.write (mkWord s.b s.c).toNat s.a, pc := s.pc + 1 }
     exec .ld_mbc_a s = .next t ∧ EncodedStep .ld_mbc_a [0x02] s t) ∧
    (let t := { s with mem := s.mem.write (mkWord s.d s.e).toNat s.a, pc := s.pc + 1 }
     exec .ld_mde_a s = .next t ∧ EncodedStep .ld_mde_a [0x12] s t) ∧
    (let t := { s with a := s.readByte (mkWord s.b s.c), pc := s.pc + 1 }
     exec .ld_a_mbc s = .next t ∧ EncodedStep .ld_a_mbc [0x0A] s t) ∧
    (let t := { s with a := s.readByte (mkWord s.d s.e), pc := s.pc + 1 }
     exec .ld_a_mde s = .next t ∧ EncodedStep .ld_a_mde [0x1A] s t)

/-- LD (HL+),A; LD (HL-),A; LD A,(HL+); LD A,(HL-) (R170 to R173, R181): constructors `ld_mhli_a`, `ld_mhld_a`, `ld_a_mhli`,
`ld_a_mhld`. The transfer uses HL as it was; HL then changes by exactly one. That the change wraps modulo 65,536 is the spec's
own reading (R46, decision D9, log entry 7, unsafe at HL = 0xFFFF and 0x0000). -/
def Obligations.PostIncrementAndDecrementOfHL : Prop :=
  ∀ s : State,
    let hl := mkWord s.h s.l
    (let t := { s with mem := s.mem.write hl.toNat s.a, h := hiByte (hl + 1), l := loByte (hl + 1), pc := s.pc + 1 }
     exec .ld_mhli_a s = .next t ∧ EncodedStep .ld_mhli_a [0x22] s t) ∧
    (let t := { s with mem := s.mem.write hl.toNat s.a, h := hiByte (hl - 1), l := loByte (hl - 1), pc := s.pc + 1 }
     exec .ld_mhld_a s = .next t ∧ EncodedStep .ld_mhld_a [0x32] s t) ∧
    (let t := { s with a := s.readByte hl, h := hiByte (hl + 1), l := loByte (hl + 1), pc := s.pc + 1 }
     exec .ld_a_mhli s = .next t ∧ EncodedStep .ld_a_mhli [0x2A] s t) ∧
    (let t := { s with a := s.readByte hl, h := hiByte (hl - 1), l := loByte (hl - 1), pc := s.pc + 1 }
     exec .ld_a_mhld s = .next t ∧ EncodedStep .ld_a_mhld [0x3A] s t)

/-- LD (a16),A and LD A,(a16) (R174, R175): constructors `ld_ma16_a`, `ld_a_ma16`. -/
def Obligations.LoadAndStoreAtDirectAddress : Prop :=
  ∀ (a : Word) (s : State),
    (let t := { s with mem := s.mem.write a.toNat s.a, pc := s.pc + 3 }
     exec (.ld_ma16_a a) s = .next t ∧ EncodedStep (.ld_ma16_a a) [0xEA, loByte a, hiByte a] s t) ∧
    (let t := { s with a := s.readByte a, pc := s.pc + 3 }
     exec (.ld_a_ma16 a) s = .next t ∧ EncodedStep (.ld_a_ma16 a) [0xFA, loByte a, hiByte a] s t)

/-- LDH (a8),A; LDH A,(a8); LD (C),A; LD A,(C) (R176 to R179): constructors `ldh_ma8_a`, `ldh_a_ma8`, `ld_mc_a`, `ld_a_mc`. The
address is 0xFF00 plus the unsigned byte. -/
def Obligations.HighPageLoadsAndStores : Prop :=
  ∀ (v : Byte) (s : State),
    (let t := { s with mem := s.mem.write (0xFF00 + v.toNat) s.a, pc := s.pc + 2 }
     exec (.ldh_ma8_a v) s = .next t ∧ EncodedStep (.ldh_ma8_a v) [0xE0, v] s t) ∧
    (let t := { s with a := s.mem.read (0xFF00 + v.toNat), pc := s.pc + 2 }
     exec (.ldh_a_ma8 v) s = .next t ∧ EncodedStep (.ldh_a_ma8 v) [0xF0, v] s t) ∧
    (let t := { s with mem := s.mem.write (0xFF00 + s.c.toNat) s.a, pc := s.pc + 1 }
     exec .ld_mc_a s = .next t ∧ EncodedStep .ld_mc_a [0xE2] s t) ∧
    (let t := { s with a := s.mem.read (0xFF00 + s.c.toNat), pc := s.pc + 1 }
     exec .ld_a_mc s = .next t ∧ EncodedStep .ld_a_mc [0xF2] s t)

/-! ### Word loads and the stack -/

/-- LD rr,d16 (R200) and LD SP,d16 (R201): constructors `ld_bc_d16`, `ld_de_d16`, `ld_hl_d16`, `ld_sp_d16`. The byte at PC + 1
goes to the low register. -/
def Obligations.LoadImmediateWord : Prop :=
  ∀ (lo hi : Byte) (s : State),
    (let t := { s with b := hi, c := lo, pc := s.pc + 3 }
     exec (.ld_bc_d16 (mkWord hi lo)) s = .next t ∧ EncodedStep (.ld_bc_d16 (mkWord hi lo)) [0x01, lo, hi] s t) ∧
    (let t := { s with d := hi, e := lo, pc := s.pc + 3 }
     exec (.ld_de_d16 (mkWord hi lo)) s = .next t ∧ EncodedStep (.ld_de_d16 (mkWord hi lo)) [0x11, lo, hi] s t) ∧
    (let t := { s with h := hi, l := lo, pc := s.pc + 3 }
     exec (.ld_hl_d16 (mkWord hi lo)) s = .next t ∧ EncodedStep (.ld_hl_d16 (mkWord hi lo)) [0x21, lo, hi] s t) ∧
    (let t := { s with sp := mkWord hi lo, pc := s.pc + 3 }
     exec (.ld_sp_d16 (mkWord hi lo)) s = .next t ∧ EncodedStep (.ld_sp_d16 (mkWord hi lo)) [0x31, lo, hi] s t)

/-- LD (a16),SP (R202) and LD SP,HL (R203): constructors `ld_ma16_sp`, `ld_sp_hl`. The word is written low byte first. That
the second address wraps at 0xFFFF is the spec's own reading (R46, decision D9, log entry 7, unsafe there). -/
def Obligations.StoreAndLoadSP : Prop :=
  ∀ (a : Word) (s : State),
    (let t := { s with
       mem := (s.mem.write a.toNat (loByte s.sp)).write (a + 1).toNat (hiByte s.sp), pc := s.pc + 3 }
     exec (.ld_ma16_sp a) s = .next t ∧ EncodedStep (.ld_ma16_sp a) [0x08, loByte a, hiByte a] s t) ∧
    (let t := { s with sp := mkWord s.h s.l, pc := s.pc + 1 }
     exec .ld_sp_hl s = .next t ∧ EncodedStep .ld_sp_hl [0xF9] s t)

/-- PUSH BC, DE, HL, AF (R210, R211, R212): constructors `push_bc`, `push_de`, `push_hl`, `push_af`. -/
def Obligations.PushWritesPairBelowSP : Prop :=
  ∀ (i : Instr) (p : Pair) (s : State), i.variant = some (.push p) →
    let t := { s with sp := s.sp - 2, mem := pushed s (pairValue s p), pc := s.pc + 1 }
    exec i s = .next t ∧ EncodedStep i [0xC5 ||| p.field <<< 4] s t

/-- POP BC, DE, HL (R213, R215) and POP AF (R214): constructors `pop_bc`, `pop_de`, `pop_hl`, `pop_af`. -/
def Obligations.PopReadsPairAtSP : Prop :=
  ∀ s : State,
    let lo := s.readByte s.sp
    let hi := s.readByte (s.sp + 1)
    (let t := { s with b := hi, c := lo, sp := s.sp + 2, pc := s.pc + 1 }
     exec .pop_bc s = .next t ∧ EncodedStep .pop_bc [0xC1] s t) ∧
    (let t := { s with d := hi, e := lo, sp := s.sp + 2, pc := s.pc + 1 }
     exec .pop_de s = .next t ∧ EncodedStep .pop_de [0xD1] s t) ∧
    (let t := { s with h := hi, l := lo, sp := s.sp + 2, pc := s.pc + 1 }
     exec .pop_hl s = .next t ∧ EncodedStep .pop_hl [0xE1] s t) ∧
    (let t := { s with
       a := hi, f := ⟨lo.getLsbD 7, lo.getLsbD 6, lo.getLsbD 5, lo.getLsbD 4⟩, sp := s.sp + 2, pc := s.pc + 1 }
     exec .pop_af s = .next t ∧ EncodedStep .pop_af [0xF1] s t)

/-- PUSH of a pair then POP of the same pair gives the pair back, restores SP, and leaves every register and flag (R216, which
the spec derives). -/
def Obligations.PopUndoesPush : Prop :=
  ∀ (i j : Instr) (p : Pair) (s t u : State), i.variant = some (.push p) → j.variant = some (.pop p) →
    exec i s = .next t → exec j t = .next u → u = { s with mem := pushed s (pairValue s p), pc := s.pc + 2 }

/-! ### Frames -/

/-- Every general register is unchanged except by the instructions R18 (derived by the spec) lists as its writers; SP except by
LD SP,d16; LD SP,HL; ADD SP,e8; PUSH; POP; a taken CALL; a taken RET. An unassigned instruction writes none. -/
def Obligations.OnlyTheListedInstructionsWriteARegister : Prop :=
  ∀ (i : Instr) (s t : State), exec i s = .next t →
    (∀ r, (∀ v, i.variant = some v → writesRegister r v = false) → t.reg r = s.reg r) ∧
    ((∀ v, i.variant = some v → writesSP s v = false) → t.sp = s.sp)

/-- All four flags are unchanged except by the 8-bit ALU, ADD HL,rr, ADD SP,e8, LD HL,SP+e8 and POP AF; ADD HL,rr leaves the
zero flag; and no assigned instruction changes the run status (R19, derived by the spec; R27, its decision D10, log entry
9). -/
def Obligations.OnlyTheListedInstructionsWriteFlags : Prop :=
  ∀ (i : Instr) (s t : State), exec i s = .next t →
    ((∀ v, i.variant = some v → writesFlags v = false) → t.f = s.f) ∧
    (∀ rr, i.variant = some (.addHL rr) → t.f.z = s.f.z) ∧
    (∀ v, i.variant = some v → t.status = s.status)

/-- Every byte of memory is unchanged except those an instruction stores to: the target of a byte store, the two bytes of
LD (a16),SP, the two bytes below SP of a PUSH and of a taken CALL (R43, R48). -/
def Obligations.BytesOutsideTheStoreAreUnchanged : Prop :=
  ∀ (i : Instr) (s t : State) (b : Word), exec i s = .next t →
    (∀ m src, i.variant = some (.load8 (.mem m) src) → b ≠ s.addrOf m → t.readByte b = s.readByte b) ∧
    (∀ a, i.variant = some (.storeSP a) → b ≠ a → b ≠ a + 1 → t.readByte b = s.readByte b) ∧
    (∀ p, i.variant = some (.push p) → b ≠ s.sp - 1 → b ≠ s.sp - 2 → t.readByte b = s.readByte b) ∧
    (∀ cc a, i.variant = some (.call cc a) → conditionHolds cc s.f = true → b ≠ s.sp - 1 → b ≠ s.sp - 2 →
      t.readByte b = s.readByte b) ∧
    (∀ cc a, i.variant = some (.call cc a) → conditionHolds cc s.f = false → t.readByte b = s.readByte b) ∧
    ((∀ v, i.variant = some v → stores v = false) → t.readByte b = s.readByte b)

/-- The memory after a step is the memory before it with the write accesses of the step's bus view performed in order, and
every read access of the view shows the byte that stood there when the step began (R59; the order is the spec's decision
D12, log entry 6). -/
def Obligations.BusWritesGiveTheMemory : Prop :=
  ∀ s t : State, step s = .next t →
    t.mem = s.mem.replay s.busAccesses ∧
    ∀ (addr : Word) (v : Byte), Access.read addr v ∈ s.busAccesses → v = s.readByte addr

/-- "No instruction performs a read-modify-write of memory" (R48): the data accesses of an assigned instruction are all
reads or all writes, and at most two. -/
def Obligations.NoInstructionReadsAndWritesData : Prop :=
  ∀ (i : Instr) (v : Variant) (s : State), i.variant = some v →
    ((s.dataAccesses v).all Access.isRead = true ∨ (s.dataAccesses v).all (fun x => !Access.isRead x) = true) ∧
    (s.dataAccesses v).length ≤ 2

/-- A conditional JP or CALL that is not taken makes one bus access, the read of its opcode byte: the immediate is not read
(R59; the spec's decision D13, log entry 6). Taken, the JP reads its opcode byte and both immediate bytes, low byte first. -/
def Obligations.NotTakenBranchReadsOnlyItsOpcode : Prop :=
  ∀ (i : Instr) (cc : Cond) (a : Word) (s : State), s.status = .running → encode i <+: s.bytesAtPC →
    (i.variant = some (.jp cc a) ∨ i.variant = some (.call cc a) → conditionHolds cc s.f = false →
      s.busAccesses = [Access.read s.pc i.opcode]) ∧
    (i.variant = some (.jp cc a) → conditionHolds cc s.f = true →
      s.busAccesses = [Access.read s.pc i.opcode, Access.read (s.pc + 1) (loByte a), Access.read (s.pc + 2) (hiByte a)])
end

