-- ==== Sys2Proof/Laws/Decode.lean ====
section
/-! SUPPORT. The opcode map, said once over its 256 bytes. -/

namespace Sys2Proof.Machine

/-- A property of every byte follows from its 256 cases. -/
theorem forall_byte {p : Byte → Prop} (h : ∀ n < 256, p (BitVec.ofNat 8 n)) (b : Byte) : p b := by
  have := h b.toNat b.isLt
  rwa [BitVec.ofNat_toNat, BitVec.setWidth_eq] at this

/-- The row a byte selects has that opcode byte. -/
theorem opcode_decodeAt (b0 b1 b2 : Byte) : (decodeAt b0 b1 b2).opcode = b0 := by
  revert b0; apply forall_byte
  intro n hn
  interval_cases n <;> rfl

/-- The opcode byte alone decides how many bytes follow it (R71, R72). -/
theorem operandCount_decodeAt (b0 b1 b2 : Byte) :
    (decodeAt b0 b1 b2).operands.length = (decodeAt b0 0 0).operands.length := by
  revert b0; apply forall_byte
  intro n hn
  interval_cases n <;> rfl

/-- With the instruction's operand bytes first, its opcode byte selects the instruction. -/
theorem decodeAt_of_operands {i : Instr} {x y : Byte} (h : i.operands <+: [x, y]) :
    decodeAt i.opcode x y = i := by
  cases i
  all_goals first
    | (simp only [Instr.opcode]; rfl)
    | (simp only [Instr.operands, Instr.variant, Instr.secondByte, Variant.immediates, Src.immediates, Dst.immediates, MemOp.immediates, List.nil_append, List.append_nil, Option.toList, List.cons_prefix_cons] at h
       obtain ⟨rfl, h⟩ := h
       first
       | (simp only [Instr.opcode]; rfl)
       | (obtain ⟨rfl, -⟩ := h
          simp only [Instr.opcode]; exact congrArg _ (mkWord_hi_lo _)))

/-- The operand bytes of the row a byte selects are the bytes given, as many as the row has (R70, R78). -/
theorem operands_decodeAt (b0 x y : Byte) :
    (decodeAt b0 x y).operands = [x, y].take (decodeAt b0 0 0).operands.length := by
  revert b0; apply forall_byte
  intro n hn
  interval_cases n <;> first | rfl | (show [loByte (mkWord y x), hiByte (mkWord y x)] = _; simp; rfl)

/-- Only the prefix escape takes a second opcode byte (R71). -/
theorem secondByte_decodeAt (b0 x y : Byte) :
    (decodeAt b0 x y).secondByte = if b0 = Config.prefixByte then some x else none := by
  revert b0; apply forall_byte
  intro n hn
  interval_cases n <;> rfl

/-- The opcode byte alone decides whether the row is assigned (R80, R86). -/
theorem wf_decodeAt (b0 x y : Byte) : (decodeAt b0 x y).wf = (decodeAt b0 0 0).variant.isSome := by
  revert b0; apply forall_byte
  intro n hn
  interval_cases n <;> rfl

end Sys2Proof.Machine
end

