-- ==== Sys2Proof/Laws/Dispatch.lean ====
section
/-! SUPPORT. What `exec` can do, said once: an assigned instruction runs its variant, an unassigned one raises. Proofs over
the instructions of a family cite this and do not split the 256 constructors again. -/

namespace Sys2Proof.Machine

/-- The shared operation of a variant. -/
def State.run (s : State) : Variant → State
  | .nop => s.runNop
  | .alu op src => s.runAlu op src
  | .addHL rr => s.runAddHL rr
  | .addSP e => s.runAddSP e
  | .jp cc a => s.runJp cc a
  | .load8 dst src => s.runLoad8 dst src
  | .loadPair rr v => s.runLoadPair rr v
  | .storeSP a => s.runStoreSP a
  | .loadSPHL => s.runLoadSPHL
  | .loadHLSP e => s.runLoadHLSP e
  | .push p => s.runPush p
  | .pop p => s.runPop p
  | .call cc a => s.runCall cc a
  | .ret cc => s.runRet cc

/-- Every meaning, at once: the state after an assigned instruction is that of its variant. -/
theorem exec_of_variant {i : Instr} {v : Variant} (h : i.variant = some v) (s : State) :
    exec i s = .next (s.run v) := by
  cases i <;> simp only [Instr.variant, Option.some.injEq, reduceCtorEq] at h <;> subst h <;> rfl

/-- What an instruction without a variant reports: its opcode byte, or the byte after the prefix escape (R86, R87). -/
def reportOf (i : Instr) : FatalCondition :=
  match i.secondByte with
  | some op => .unknownOpcode op true
  | none => .unknownOpcode i.opcode false

/-- Every instruction without a variant takes the fatal condition and does nothing else (R240, R245). -/
theorem exec_of_no_variant {i : Instr} (h : i.variant = none) (s : State) :
    exec i s = .next (s.raise (reportOf i)) := by
  cases i <;> first | rfl | simp only [Instr.variant, reduceCtorEq] at h

/-- `exec` answers a next state, whatever the instruction and the state. -/
theorem exec_next (i : Instr) (s : State) : ∃ t, exec i s = .next t := by
  cases h : i.variant with
  | none => exact ⟨_, exec_of_no_variant h s⟩
  | some v => exact ⟨_, exec_of_variant h s⟩

end Sys2Proof.Machine
end

