-- ==== Sys2Proof/Laws/Memory.lean ====
section
/-! SUPPORT. The laws of memory: read after write, and the canonical form that every operation keeps. -/

namespace Sys2Proof.Machine

namespace Memory

/-! ### Read after write (R42, R43), for any list of cells -/

theorem read_erase_same (m : Memory) (a : Nat) : (m.erase a).read a = Config.unlistedByte := by
  induction m with
  | nil => rfl
  | cons cell m ih =>
    obtain ⟨k, v⟩ := cell
    by_cases h : k = a <;> simp [erase, read, h, ih]

theorem read_erase_other (m : Memory) {a b : Nat} (h : b ≠ a) : (m.erase a).read b = m.read b := by
  induction m with
  | nil => rfl
  | cons cell m ih =>
    obtain ⟨k, v⟩ := cell
    by_cases hk : k = a
    · have : k ≠ b := fun e => h (e ▸ hk)
      simp [erase, read, hk, ih, hk ▸ this]
    · simp [erase, read, hk, ih]

theorem read_insert_same (m : Memory) (a : Nat) (v : Byte) (h : m.all (fun cell => decide (cell.1 ≠ a))) :
    (m.insert a v).read a = v := by
  induction m with
  | nil => simp [insert, read]
  | cons cell m ih =>
    obtain ⟨k, w⟩ := cell
    simp only [List.all_cons, Bool.and_eq_true, decide_eq_true_eq] at h
    by_cases hk : a < k <;> simp [insert, read, hk, h.1, ih h.2]

theorem read_insert_other (m : Memory) {a b : Nat} (v : Byte) (h : b ≠ a) :
    (m.insert a v).read b = m.read b := by
  induction m with
  | nil => simp [insert, read, Ne.symm h]
  | cons cell m ih =>
    obtain ⟨k, w⟩ := cell
    by_cases hk : a < k <;> simp [insert, read, hk, ih, Ne.symm h]

theorem erase_unlisted (m : Memory) (a : Nat) : (m.erase a).all (fun cell => decide (cell.1 ≠ a)) := by
  induction m with
  | nil => rfl
  | cons cell m ih =>
    obtain ⟨k, w⟩ := cell
    by_cases hk : k = a
    · simpa only [erase, hk, if_true] using ih
    · simp only [erase, hk, if_false, List.all_cons, ih, Bool.and_true, decide_eq_true_eq, ne_eq, not_false_eq_true]

@[simp] theorem read_write_same (m : Memory) (a : Nat) (v : Byte) : (m.write a v).read a = v := by
  unfold write
  split
  · next h => rw [read_erase_same, h]
  · exact read_insert_same _ _ _ (erase_unlisted m a)

theorem read_write_other (m : Memory) {a b : Nat} (v : Byte) (h : b ≠ a) :
    (m.write a v).read b = m.read b := by
  unfold write
  split
  · exact read_erase_other m h
  · rw [read_insert_other _ v h, read_erase_other m h]

theorem read_write (m : Memory) (a b : Nat) (v : Byte) :
    (m.write a v).read b = if b = a then v else m.read b := by
  by_cases h : b = a
  · subst h; simp
  · simp [h, read_write_other]

/-! ### The canonical form -/

theorem all_erase {m : Memory} {p : Host.Cell → Bool} (a : Nat) (h : m.all p) : (m.erase a).all p := by
  induction m with
  | nil => rfl
  | cons cell m ih =>
    obtain ⟨k, w⟩ := cell
    simp only [List.all_cons, Bool.and_eq_true] at h
    by_cases hk : k = a
    · simp only [erase, hk, if_true, ih h.2]
    · simp only [erase, hk, if_false, List.all_cons, h.1, ih h.2, Bool.and_self]

theorem all_insert {m : Memory} {p : Host.Cell → Bool} (a : Nat) (v : Byte) (h : m.all p) (hp : p (a, v)) :
    (m.insert a v).all p := by
  induction m with
  | nil => simpa [insert] using hp
  | cons cell m ih =>
    obtain ⟨k, w⟩ := cell
    simp only [List.all_cons, Bool.and_eq_true] at h
    by_cases hk : a < k
    · simp only [insert, hk, if_true, List.all_cons, Bool.and_eq_true]; exact ⟨hp, h.1, h.2⟩
    · simp only [insert, hk, if_false, List.all_cons, Bool.and_eq_true]; exact ⟨h.1, ih h.2⟩

theorem wf_cons {k : Nat} {v : Byte} {m : Memory} :
    wf ((k, v) :: m) = true ↔
      k < Config.memSize ∧ v ≠ Config.unlistedByte ∧ m.all (fun cell => decide (k < cell.1)) = true ∧ wf m = true := by
  simp [wf, and_assoc]

theorem wf_erase {m : Memory} (a : Nat) (h : m.wf) : (m.erase a).wf := by
  induction m with
  | nil => rfl
  | cons cell m ih =>
    obtain ⟨k, v⟩ := cell
    rw [wf_cons] at h
    by_cases hk : k = a
    · simpa [erase, hk] using ih h.2.2.2
    · simp only [erase, hk, if_false, wf_cons]
      exact ⟨h.1, h.2.1, all_erase a h.2.2.1, ih h.2.2.2⟩

theorem wf_insert {m : Memory} {a : Nat} {v : Byte} (h : m.wf) (ha : a < Config.memSize)
    (hv : v ≠ Config.unlistedByte) (hu : m.all (fun cell => decide (cell.1 ≠ a))) : (m.insert a v).wf := by
  induction m with
  | nil => simp [insert, wf, ha, hv]
  | cons cell m ih =>
    obtain ⟨k, w⟩ := cell
    have hw := wf_cons.mp h
    simp only [List.all_cons, Bool.and_eq_true, decide_eq_true_eq] at hu
    by_cases hk : a < k
    · simp only [insert, hk, if_true]
      refine wf_cons.mpr ⟨ha, hv, ?_, h⟩
      simp only [List.all_cons, hk, decide_true, Bool.true_and, List.all_eq_true, decide_eq_true_eq]
      intro cell hc
      have := List.all_eq_true.mp hw.2.2.1 cell hc
      simp only [decide_eq_true_eq] at this
      omega
    · simp only [insert, hk, if_false]
      refine wf_cons.mpr ⟨hw.1, hw.2.1, all_insert a v hw.2.2.1 ?_, ih hw.2.2.2 hu.2⟩
      simp only [decide_eq_true_eq]; omega

/-- Every write inside the memory keeps the canonical form. -/
theorem wf_write {m : Memory} {a : Nat} (v : Byte) (h : m.wf) (ha : a < Config.memSize) : (m.write a v).wf := by
  unfold write
  split
  · exact wf_erase a h
  · next hv => exact wf_insert (wf_erase a h) ha hv (erase_unlisted m a)

theorem read_of_all_ne {m : Memory} {a : Nat} (h : m.all (fun cell => decide (a < cell.1))) :
    m.read a = Config.unlistedByte := by
  induction m with
  | nil => rfl
  | cons cell m ih =>
    obtain ⟨k, v⟩ := cell
    simp only [List.all_cons, Bool.and_eq_true, decide_eq_true_eq] at h
    have : k ≠ a := by omega
    simp [read, this, ih h.2]

end Memory

/-! ### The bus primitives at 16-bit addresses -/

/-- A 16-bit address is inside the memory, so the range check of the bus never fails (R46, R52). -/
theorem busRead_word (m : Memory) (a : Word) : busRead m a.toNat = .ok (m.read a.toNat) :=
  if_pos a.isLt

theorem busWrite_word (m : Memory) (a : Word) (v : Byte) : busWrite m a.toNat v = .ok (m.write a.toNat v) :=
  if_pos a.isLt

/-- Read after a byte write, at the same and at every other address (R42, R43). -/
theorem readByte_writeByte (s : State) (a b : Word) (v : Byte) :
    (s.writeByte a v).readByte b = if b = a then v else s.readByte b := by
  simp only [State.readByte, State.writeByte, Memory.read_write, BitVec.toNat_inj]

@[simp] theorem readByte_writeByte_same (s : State) (a : Word) (v : Byte) :
    (s.writeByte a v).readByte a = v := by simp [readByte_writeByte]

theorem readByte_writeByte_other (s : State) {a b : Word} (v : Byte) (h : b ≠ a) :
    (s.writeByte a v).readByte b = s.readByte b := by simp [readByte_writeByte, h]

theorem wf_writeByte {s : State} (a : Word) (v : Byte) (h : s.mem.wf) : (s.writeByte a v).mem.wf :=
  Memory.wf_write v h a.isLt

theorem wf_reset : State.reset.mem.wf = true := rfl

end Sys2Proof.Machine
end

