-- ==== Sys2Proof/Laws/State.lean ====
section
/-! SUPPORT. One lemma per field per update of the state: what each named operation leaves, and what it writes. -/

namespace Sys2Proof.Machine

namespace State

variable (s : State)

/-! ### advance, writeByte, raise, setAF8 -/

@[simp] theorem advance_a (n : Nat) : (s.advance n).a = s.a := rfl
@[simp] theorem advance_b (n : Nat) : (s.advance n).b = s.b := rfl
@[simp] theorem advance_c (n : Nat) : (s.advance n).c = s.c := rfl
@[simp] theorem advance_d (n : Nat) : (s.advance n).d = s.d := rfl
@[simp] theorem advance_e (n : Nat) : (s.advance n).e = s.e := rfl
@[simp] theorem advance_h (n : Nat) : (s.advance n).h = s.h := rfl
@[simp] theorem advance_l (n : Nat) : (s.advance n).l = s.l := rfl
@[simp] theorem advance_f (n : Nat) : (s.advance n).f = s.f := rfl
@[simp] theorem advance_sp (n : Nat) : (s.advance n).sp = s.sp := rfl
@[simp] theorem advance_pc (n : Nat) : (s.advance n).pc = s.pc + BitVec.ofNat 16 n := rfl
@[simp] theorem advance_mem (n : Nat) : (s.advance n).mem = s.mem := rfl
@[simp] theorem advance_status (n : Nat) : (s.advance n).status = s.status := rfl
@[simp] theorem writeByte_a (addr : Word) (v : Byte) : (s.writeByte addr v).a = s.a := rfl
@[simp] theorem writeByte_b (addr : Word) (v : Byte) : (s.writeByte addr v).b = s.b := rfl
@[simp] theorem writeByte_c (addr : Word) (v : Byte) : (s.writeByte addr v).c = s.c := rfl
@[simp] theorem writeByte_d (addr : Word) (v : Byte) : (s.writeByte addr v).d = s.d := rfl
@[simp] theorem writeByte_e (addr : Word) (v : Byte) : (s.writeByte addr v).e = s.e := rfl
@[simp] theorem writeByte_h (addr : Word) (v : Byte) : (s.writeByte addr v).h = s.h := rfl
@[simp] theorem writeByte_l (addr : Word) (v : Byte) : (s.writeByte addr v).l = s.l := rfl
@[simp] theorem writeByte_f (addr : Word) (v : Byte) : (s.writeByte addr v).f = s.f := rfl
@[simp] theorem writeByte_sp (addr : Word) (v : Byte) : (s.writeByte addr v).sp = s.sp := rfl
@[simp] theorem writeByte_pc (addr : Word) (v : Byte) : (s.writeByte addr v).pc = s.pc := rfl
@[simp] theorem writeByte_mem (addr : Word) (v : Byte) : (s.writeByte addr v).mem = s.mem.write addr.toNat v := rfl
@[simp] theorem writeByte_status (addr : Word) (v : Byte) : (s.writeByte addr v).status = s.status := rfl
@[simp] theorem raise_a (r : FatalCondition) : (s.raise r).a = s.a := rfl
@[simp] theorem raise_b (r : FatalCondition) : (s.raise r).b = s.b := rfl
@[simp] theorem raise_c (r : FatalCondition) : (s.raise r).c = s.c := rfl
@[simp] theorem raise_d (r : FatalCondition) : (s.raise r).d = s.d := rfl
@[simp] theorem raise_e (r : FatalCondition) : (s.raise r).e = s.e := rfl
@[simp] theorem raise_h (r : FatalCondition) : (s.raise r).h = s.h := rfl
@[simp] theorem raise_l (r : FatalCondition) : (s.raise r).l = s.l := rfl
@[simp] theorem raise_f (r : FatalCondition) : (s.raise r).f = s.f := rfl
@[simp] theorem raise_sp (r : FatalCondition) : (s.raise r).sp = s.sp := rfl
@[simp] theorem raise_pc (r : FatalCondition) : (s.raise r).pc = s.pc := rfl
@[simp] theorem raise_mem (r : FatalCondition) : (s.raise r).mem = s.mem := rfl
@[simp] theorem raise_status (r : FatalCondition) : (s.raise r).status = .faulted r := rfl
@[simp] theorem setAF8_a (out : AluOut) : (s.setAF8 out).a = out.res := rfl
@[simp] theorem setAF8_b (out : AluOut) : (s.setAF8 out).b = s.b := rfl
@[simp] theorem setAF8_c (out : AluOut) : (s.setAF8 out).c = s.c := rfl
@[simp] theorem setAF8_d (out : AluOut) : (s.setAF8 out).d = s.d := rfl
@[simp] theorem setAF8_e (out : AluOut) : (s.setAF8 out).e = s.e := rfl
@[simp] theorem setAF8_h (out : AluOut) : (s.setAF8 out).h = s.h := rfl
@[simp] theorem setAF8_l (out : AluOut) : (s.setAF8 out).l = s.l := rfl
@[simp] theorem setAF8_f (out : AluOut) : (s.setAF8 out).f = out.flags := rfl
@[simp] theorem setAF8_sp (out : AluOut) : (s.setAF8 out).sp = s.sp := rfl
@[simp] theorem setAF8_pc (out : AluOut) : (s.setAF8 out).pc = s.pc := rfl
@[simp] theorem setAF8_mem (out : AluOut) : (s.setAF8 out).mem = s.mem := rfl
@[simp] theorem setAF8_status (out : AluOut) : (s.setAF8 out).status = s.status := rfl

/-! ### setReg, setPair, setRp, adjustHL, writeDst: what they leave -/

@[simp] theorem setReg_f (r : Reg8) (v : Byte) : (s.setReg r v).f = s.f := by cases r <;> rfl
@[simp] theorem setReg_sp (r : Reg8) (v : Byte) : (s.setReg r v).sp = s.sp := by cases r <;> rfl
@[simp] theorem setReg_pc (r : Reg8) (v : Byte) : (s.setReg r v).pc = s.pc := by cases r <;> rfl
@[simp] theorem setReg_mem (r : Reg8) (v : Byte) : (s.setReg r v).mem = s.mem := by cases r <;> rfl
@[simp] theorem setReg_status (r : Reg8) (v : Byte) : (s.setReg r v).status = s.status := by cases r <;> rfl
@[simp] theorem setPair_sp (p : Pair) (v : Word) : (s.setPair p v).sp = s.sp := by cases p <;> rfl
@[simp] theorem setPair_pc (p : Pair) (v : Word) : (s.setPair p v).pc = s.pc := by cases p <;> rfl
@[simp] theorem setPair_mem (p : Pair) (v : Word) : (s.setPair p v).mem = s.mem := by cases p <;> rfl
@[simp] theorem setPair_status (p : Pair) (v : Word) : (s.setPair p v).status = s.status := by cases p <;> rfl
@[simp] theorem setRp_a (rr : Rp) (v : Word) : (s.setRp rr v).a = s.a := by cases rr <;> rfl
@[simp] theorem setRp_f (rr : Rp) (v : Word) : (s.setRp rr v).f = s.f := by cases rr <;> rfl
@[simp] theorem setRp_pc (rr : Rp) (v : Word) : (s.setRp rr v).pc = s.pc := by cases rr <;> rfl
@[simp] theorem setRp_mem (rr : Rp) (v : Word) : (s.setRp rr v).mem = s.mem := by cases rr <;> rfl
@[simp] theorem setRp_status (rr : Rp) (v : Word) : (s.setRp rr v).status = s.status := by cases rr <;> rfl
@[simp] theorem adjustHL_a (m : Option MemOp) : (s.adjustHL m).a = s.a := by unfold adjustHL; split <;> rfl
@[simp] theorem adjustHL_b (m : Option MemOp) : (s.adjustHL m).b = s.b := by unfold adjustHL; split <;> rfl
@[simp] theorem adjustHL_c (m : Option MemOp) : (s.adjustHL m).c = s.c := by unfold adjustHL; split <;> rfl
@[simp] theorem adjustHL_d (m : Option MemOp) : (s.adjustHL m).d = s.d := by unfold adjustHL; split <;> rfl
@[simp] theorem adjustHL_e (m : Option MemOp) : (s.adjustHL m).e = s.e := by unfold adjustHL; split <;> rfl
@[simp] theorem adjustHL_f (m : Option MemOp) : (s.adjustHL m).f = s.f := by unfold adjustHL; split <;> rfl
@[simp] theorem adjustHL_sp (m : Option MemOp) : (s.adjustHL m).sp = s.sp := by unfold adjustHL; split <;> rfl
@[simp] theorem adjustHL_pc (m : Option MemOp) : (s.adjustHL m).pc = s.pc := by unfold adjustHL; split <;> rfl
@[simp] theorem adjustHL_mem (m : Option MemOp) : (s.adjustHL m).mem = s.mem := by unfold adjustHL; split <;> rfl
@[simp] theorem adjustHL_status (m : Option MemOp) : (s.adjustHL m).status = s.status := by unfold adjustHL; split <;> rfl
@[simp] theorem writeDst_f (dst : Dst) (v : Byte) : (s.writeDst dst v).f = s.f := by cases dst <;> simp [writeDst]
@[simp] theorem writeDst_sp (dst : Dst) (v : Byte) : (s.writeDst dst v).sp = s.sp := by cases dst <;> simp [writeDst]
@[simp] theorem writeDst_pc (dst : Dst) (v : Byte) : (s.writeDst dst v).pc = s.pc := by cases dst <;> simp [writeDst]
@[simp] theorem writeDst_status (dst : Dst) (v : Byte) : (s.writeDst dst v).status = s.status := by cases dst <;> simp [writeDst]

/-! ### Registers and pairs read after they are written (R10, R14, R24) -/

theorem reg_setReg (r q : Reg8) (v : Byte) : (s.setReg r v).reg q = if q = r then v else s.reg q := by
  cases r <;> cases q <;> rfl

@[simp] theorem reg_setReg_same (r : Reg8) (v : Byte) : (s.setReg r v).reg r = v := by cases r <;> rfl

/-- For BC, DE and HL a write then read round-trips exactly (R14). -/
theorem pair_setPair_same {p : Pair} (h : p ≠ .af) (v : Word) : (s.setPair p v).pair p = v := by
  cases p <;> simp_all [setPair, pair]

@[simp] theorem pair_setPair_hl (v : Word) : (s.setPair .hl v).pair .hl = v := pair_setPair_same s (by decide) v

@[simp] theorem rp_setRp_same (rr : Rp) (v : Word) : (s.setRp rr v).rp rr = v := by
  cases rr <;> simp [setRp, rp, setPair, pair]

end State

end Sys2Proof.Machine
end

