-- ==== Sys2Proof/Laws/Ops.lean ====
section
/-! SUPPORT. What each shared operation does, said once: later proofs cite these and do not unfold the operations. -/

namespace Sys2Proof.Machine

namespace State

/-- The push primitive as one update (R212). -/
theorem push16_eq (s : State) (v : Word) :
    s.push16 v = { s with
      sp := s.sp - 2
      mem := (s.mem.write (s.sp - 1).toNat (hiByte v)).write (s.sp - 2).toNat (loByte v) } := by
  have h : s.sp - 1 - 1 = s.sp - 2 := by bv_omega
  simp only [push16, writeByte, h]

/-- The pop primitive as a value and one update (R215). -/
theorem pop16_eq (s : State) : s.pop16 = (s.readWord s.sp, { s with sp := s.sp + 2 }) := by
  have h : s.sp + 1 + 1 = s.sp + 2 := by bv_omega
  simp only [pop16, readWord, readByte, h]

/-- The word-write primitive as one update (R45). -/
theorem writeWord_eq (s : State) (addr : Word) (v : Word) :
    s.writeWord addr v = { s with
      mem := (s.mem.write addr.toNat (loByte v)).write (addr + 1).toNat (hiByte v) } := rfl

theorem word_ne_succ (a : Word) : a ≠ a + 1 := by bv_omega

/-- The bytes on the stack after a push, and every other byte (R212). -/
theorem readByte_push16 (s : State) (v b : Word) :
    (s.push16 v).readByte b =
      if b = s.sp - 2 then loByte v else if b = s.sp - 1 then hiByte v else s.readByte b := by
  rw [push16_eq]
  simp only [readByte, Memory.read_write, BitVec.toNat_inj]

/-- The bytes after a word write, and every other byte (R45). -/
theorem readByte_writeWord (s : State) (addr v b : Word) :
    (s.writeWord addr v).readByte b =
      if b = addr + 1 then hiByte v else if b = addr then loByte v else s.readByte b := by
  rw [writeWord_eq]
  simp only [readByte, Memory.read_write, BitVec.toNat_inj]

theorem wf_push16 {s : State} (v : Word) (h : s.mem.wf) : (s.push16 v).mem.wf := by
  rw [push16_eq]
  exact Memory.wf_write _ (Memory.wf_write _ h (BitVec.isLt _)) (BitVec.isLt _)

theorem wf_writeWord {s : State} (addr v : Word) (h : s.mem.wf) : (s.writeWord addr v).mem.wf :=
  wf_writeByte _ _ (wf_writeByte _ _ h)

theorem wf_writeDst {s : State} (dst : Dst) (v : Byte) (h : s.mem.wf) : (s.writeDst dst v).mem.wf := by
  cases dst with
  | reg r => simpa [writeDst] using h
  | mem m => exact wf_writeByte _ _ h

/-- An ALU operation writes A (CP does not) and the flags, nothing else (R101 to R124). -/
theorem alu_frame (s : State) (op : AluOp) (v : Byte) :
    s.alu op v = { s with a := (s.alu op v).a, f := (s.alu op v).f } := by
  cases op <;> rfl

end State

end Sys2Proof.Machine
end

