-- ==== Sys2Proof/Laws/PerInstr.lean ====
section
/-! SUPPORT. Per constructor: the row that an instruction's own bytes select is that instruction. -/

namespace Sys2Proof.Laws.OpcodeRow

open Sys2Proof.Machine

/-- The opcode map's row at the instruction's opcode byte, with the instruction's operand bytes, is the instruction
(R80 and R81 agree). -/
def Statement (i : Instr) : Prop :=
  decodeAt i.opcode (i.operands.getD 0 0) (i.operands.getD 1 0) = i

theorem nop : Statement (.nop) := rfl
theorem add_a_b : Statement (.add_a_b) := rfl
theorem add_a_c : Statement (.add_a_c) := rfl
theorem add_a_d : Statement (.add_a_d) := rfl
theorem add_a_e : Statement (.add_a_e) := rfl
theorem add_a_h : Statement (.add_a_h) := rfl
theorem add_a_l : Statement (.add_a_l) := rfl
theorem add_a_a : Statement (.add_a_a) := rfl
theorem add_a_mhl : Statement (.add_a_mhl) := rfl
theorem add_a_d8 (v : Byte) : Statement (.add_a_d8 v) := by
  simp only [Statement, Instr.opcode]; exact rfl
theorem adc_a_b : Statement (.adc_a_b) := rfl
theorem adc_a_c : Statement (.adc_a_c) := rfl
theorem adc_a_d : Statement (.adc_a_d) := rfl
theorem adc_a_e : Statement (.adc_a_e) := rfl
theorem adc_a_h : Statement (.adc_a_h) := rfl
theorem adc_a_l : Statement (.adc_a_l) := rfl
theorem adc_a_a : Statement (.adc_a_a) := rfl
theorem adc_a_mhl : Statement (.adc_a_mhl) := rfl
theorem adc_a_d8 (v : Byte) : Statement (.adc_a_d8 v) := by
  simp only [Statement, Instr.opcode]; exact rfl
theorem sub_b : Statement (.sub_b) := rfl
theorem sub_c : Statement (.sub_c) := rfl
theorem sub_d : Statement (.sub_d) := rfl
theorem sub_e : Statement (.sub_e) := rfl
theorem sub_h : Statement (.sub_h) := rfl
theorem sub_l : Statement (.sub_l) := rfl
theorem sub_a : Statement (.sub_a) := rfl
theorem sub_mhl : Statement (.sub_mhl) := rfl
theorem sub_d8 (v : Byte) : Statement (.sub_d8 v) := by
  simp only [Statement, Instr.opcode]; exact rfl
theorem sbc_a_b : Statement (.sbc_a_b) := rfl
theorem sbc_a_c : Statement (.sbc_a_c) := rfl
theorem sbc_a_d : Statement (.sbc_a_d) := rfl
theorem sbc_a_e : Statement (.sbc_a_e) := rfl
theorem sbc_a_h : Statement (.sbc_a_h) := rfl
theorem sbc_a_l : Statement (.sbc_a_l) := rfl
theorem sbc_a_a : Statement (.sbc_a_a) := rfl
theorem sbc_a_mhl : Statement (.sbc_a_mhl) := rfl
theorem sbc_a_d8 (v : Byte) : Statement (.sbc_a_d8 v) := by
  simp only [Statement, Instr.opcode]; exact rfl
theorem and_b : Statement (.and_b) := rfl
theorem and_c : Statement (.and_c) := rfl
theorem and_d : Statement (.and_d) := rfl
theorem and_e : Statement (.and_e) := rfl
theorem and_h : Statement (.and_h) := rfl
theorem and_l : Statement (.and_l) := rfl
theorem and_a : Statement (.and_a) := rfl
theorem and_mhl : Statement (.and_mhl) := rfl
theorem and_d8 (v : Byte) : Statement (.and_d8 v) := by
  simp only [Statement, Instr.opcode]; exact rfl
theorem xor_b : Statement (.xor_b) := rfl
theorem xor_c : Statement (.xor_c) := rfl
theorem xor_d : Statement (.xor_d) := rfl
theorem xor_e : Statement (.xor_e) := rfl
theorem xor_h : Statement (.xor_h) := rfl
theorem xor_l : Statement (.xor_l) := rfl
theorem xor_a : Statement (.xor_a) := rfl
theorem xor_mhl : Statement (.xor_mhl) := rfl
theorem xor_d8 (v : Byte) : Statement (.xor_d8 v) := by
  simp only [Statement, Instr.opcode]; exact rfl
theorem or_b : Statement (.or_b) := rfl
theorem or_c : Statement (.or_c) := rfl
theorem or_d : Statement (.or_d) := rfl
theorem or_e : Statement (.or_e) := rfl
theorem or_h : Statement (.or_h) := rfl
theorem or_l : Statement (.or_l) := rfl
theorem or_a : Statement (.or_a) := rfl
theorem or_mhl : Statement (.or_mhl) := rfl
theorem or_d8 (v : Byte) : Statement (.or_d8 v) := by
  simp only [Statement, Instr.opcode]; exact rfl
theorem cp_b : Statement (.cp_b) := rfl
theorem cp_c : Statement (.cp_c) := rfl
theorem cp_d : Statement (.cp_d) := rfl
theorem cp_e : Statement (.cp_e) := rfl
theorem cp_h : Statement (.cp_h) := rfl
theorem cp_l : Statement (.cp_l) := rfl
theorem cp_a : Statement (.cp_a) := rfl
theorem cp_mhl : Statement (.cp_mhl) := rfl
theorem cp_d8 (v : Byte) : Statement (.cp_d8 v) := by
  simp only [Statement, Instr.opcode]; exact rfl
theorem add_hl_bc : Statement (.add_hl_bc) := rfl
theorem add_hl_de : Statement (.add_hl_de) := rfl
theorem add_hl_hl : Statement (.add_hl_hl) := rfl
theorem add_hl_sp : Statement (.add_hl_sp) := rfl
theorem add_sp_e8 (e : Byte) : Statement (.add_sp_e8 e) := by
  simp only [Statement, Instr.opcode]; exact rfl
theorem jp_a16 (a : Word) : Statement (.jp_a16 a) := by
  simp only [Statement, Instr.opcode]; exact congrArg Instr.jp_a16 (mkWord_hi_lo a)
theorem jp_nz_a16 (a : Word) : Statement (.jp_nz_a16 a) := by
  simp only [Statement, Instr.opcode]; exact congrArg Instr.jp_nz_a16 (mkWord_hi_lo a)
theorem jp_z_a16 (a : Word) : Statement (.jp_z_a16 a) := by
  simp only [Statement, Instr.opcode]; exact congrArg Instr.jp_z_a16 (mkWord_hi_lo a)
theorem jp_nc_a16 (a : Word) : Statement (.jp_nc_a16 a) := by
  simp only [Statement, Instr.opcode]; exact congrArg Instr.jp_nc_a16 (mkWord_hi_lo a)
theorem jp_c_a16 (a : Word) : Statement (.jp_c_a16 a) := by
  simp only [Statement, Instr.opcode]; exact congrArg Instr.jp_c_a16 (mkWord_hi_lo a)
theorem ld_b_b : Statement (.ld_b_b) := rfl
theorem ld_b_c : Statement (.ld_b_c) := rfl
theorem ld_b_d : Statement (.ld_b_d) := rfl
theorem ld_b_e : Statement (.ld_b_e) := rfl
theorem ld_b_h : Statement (.ld_b_h) := rfl
theorem ld_b_l : Statement (.ld_b_l) := rfl
theorem ld_b_a : Statement (.ld_b_a) := rfl
theorem ld_c_b : Statement (.ld_c_b) := rfl
theorem ld_c_c : Statement (.ld_c_c) := rfl
theorem ld_c_d : Statement (.ld_c_d) := rfl
theorem ld_c_e : Statement (.ld_c_e) := rfl
theorem ld_c_h : Statement (.ld_c_h) := rfl
theorem ld_c_l : Statement (.ld_c_l) := rfl
theorem ld_c_a : Statement (.ld_c_a) := rfl
theorem ld_d_b : Statement (.ld_d_b) := rfl
theorem ld_d_c : Statement (.ld_d_c) := rfl
theorem ld_d_d : Statement (.ld_d_d) := rfl
theorem ld_d_e : Statement (.ld_d_e) := rfl
theorem ld_d_h : Statement (.ld_d_h) := rfl
theorem ld_d_l : Statement (.ld_d_l) := rfl
theorem ld_d_a : Statement (.ld_d_a) := rfl
theorem ld_e_b : Statement (.ld_e_b) := rfl
theorem ld_e_c : Statement (.ld_e_c) := rfl
theorem ld_e_d : Statement (.ld_e_d) := rfl
theorem ld_e_e : Statement (.ld_e_e) := rfl
theorem ld_e_h : Statement (.ld_e_h) := rfl
theorem ld_e_l : Statement (.ld_e_l) := rfl
theorem ld_e_a : Statement (.ld_e_a) := rfl
theorem ld_h_b : Statement (.ld_h_b) := rfl
theorem ld_h_c : Statement (.ld_h_c) := rfl
theorem ld_h_d : Statement (.ld_h_d) := rfl
theorem ld_h_e : Statement (.ld_h_e) := rfl
theorem ld_h_h : Statement (.ld_h_h) := rfl
theorem ld_h_l : Statement (.ld_h_l) := rfl
theorem ld_h_a : Statement (.ld_h_a) := rfl
theorem ld_l_b : Statement (.ld_l_b) := rfl
theorem ld_l_c : Statement (.ld_l_c) := rfl
theorem ld_l_d : Statement (.ld_l_d) := rfl
theorem ld_l_e : Statement (.ld_l_e) := rfl
theorem ld_l_h : Statement (.ld_l_h) := rfl
theorem ld_l_l : Statement (.ld_l_l) := rfl
theorem ld_l_a : Statement (.ld_l_a) := rfl
theorem ld_a_b : Statement (.ld_a_b) := rfl
theorem ld_a_c : Statement (.ld_a_c) := rfl
theorem ld_a_d : Statement (.ld_a_d) := rfl
theorem ld_a_e : Statement (.ld_a_e) := rfl
theorem ld_a_h : Statement (.ld_a_h) := rfl
theorem ld_a_l : Statement (.ld_a_l) := rfl
theorem ld_a_a : Statement (.ld_a_a) := rfl
theorem ld_b_mhl : Statement (.ld_b_mhl) := rfl
theorem ld_c_mhl : Statement (.ld_c_mhl) := rfl
theorem ld_d_mhl : Statement (.ld_d_mhl) := rfl
theorem ld_e_mhl : Statement (.ld_e_mhl) := rfl
theorem ld_h_mhl : Statement (.ld_h_mhl) := rfl
theorem ld_l_mhl : Statement (.ld_l_mhl) := rfl
theorem ld_a_mhl : Statement (.ld_a_mhl) := rfl
theorem ld_mhl_b : Statement (.ld_mhl_b) := rfl
theorem ld_mhl_c : Statement (.ld_mhl_c) := rfl
theorem ld_mhl_d : Statement (.ld_mhl_d) := rfl
theorem ld_mhl_e : Statement (.ld_mhl_e) := rfl
theorem ld_mhl_h : Statement (.ld_mhl_h) := rfl
theorem ld_mhl_l : Statement (.ld_mhl_l) := rfl
theorem ld_mhl_a : Statement (.ld_mhl_a) := rfl
theorem ld_b_d8 (v : Byte) : Statement (.ld_b_d8 v) := by
  simp only [Statement, Instr.opcode]; exact rfl
theorem ld_c_d8 (v : Byte) : Statement (.ld_c_d8 v) := by
  simp only [Statement, Instr.opcode]; exact rfl
theorem ld_d_d8 (v : Byte) : Statement (.ld_d_d8 v) := by
  simp only [Statement, Instr.opcode]; exact rfl
theorem ld_e_d8 (v : Byte) : Statement (.ld_e_d8 v) := by
  simp only [Statement, Instr.opcode]; exact rfl
theorem ld_h_d8 (v : Byte) : Statement (.ld_h_d8 v) := by
  simp only [Statement, Instr.opcode]; exact rfl
theorem ld_l_d8 (v : Byte) : Statement (.ld_l_d8 v) := by
  simp only [Statement, Instr.opcode]; exact rfl
theorem ld_a_d8 (v : Byte) : Statement (.ld_a_d8 v) := by
  simp only [Statement, Instr.opcode]; exact rfl
theorem ld_mhl_d8 (v : Byte) : Statement (.ld_mhl_d8 v) := by
  simp only [Statement, Instr.opcode]; exact rfl
theorem ld_mbc_a : Statement (.ld_mbc_a) := rfl
theorem ld_mde_a : Statement (.ld_mde_a) := rfl
theorem ld_a_mbc : Statement (.ld_a_mbc) := rfl
theorem ld_a_mde : Statement (.ld_a_mde) := rfl
theorem ld_mhli_a : Statement (.ld_mhli_a) := rfl
theorem ld_mhld_a : Statement (.ld_mhld_a) := rfl
theorem ld_a_mhli : Statement (.ld_a_mhli) := rfl
theorem ld_a_mhld : Statement (.ld_a_mhld) := rfl
theorem ld_ma16_a (a : Word) : Statement (.ld_ma16_a a) := by
  simp only [Statement, Instr.opcode]; exact congrArg Instr.ld_ma16_a (mkWord_hi_lo a)
theorem ld_a_ma16 (a : Word) : Statement (.ld_a_ma16 a) := by
  simp only [Statement, Instr.opcode]; exact congrArg Instr.ld_a_ma16 (mkWord_hi_lo a)
theorem ldh_ma8_a (v : Byte) : Statement (.ldh_ma8_a v) := by
  simp only [Statement, Instr.opcode]; exact rfl
theorem ldh_a_ma8 (v : Byte) : Statement (.ldh_a_ma8 v) := by
  simp only [Statement, Instr.opcode]; exact rfl
theorem ld_mc_a : Statement (.ld_mc_a) := rfl
theorem ld_a_mc : Statement (.ld_a_mc) := rfl
theorem ld_bc_d16 (v : Word) : Statement (.ld_bc_d16 v) := by
  simp only [Statement, Instr.opcode]; exact congrArg Instr.ld_bc_d16 (mkWord_hi_lo v)
theorem ld_de_d16 (v : Word) : Statement (.ld_de_d16 v) := by
  simp only [Statement, Instr.opcode]; exact congrArg Instr.ld_de_d16 (mkWord_hi_lo v)
theorem ld_hl_d16 (v : Word) : Statement (.ld_hl_d16 v) := by
  simp only [Statement, Instr.opcode]; exact congrArg Instr.ld_hl_d16 (mkWord_hi_lo v)
theorem ld_sp_d16 (v : Word) : Statement (.ld_sp_d16 v) := by
  simp only [Statement, Instr.opcode]; exact congrArg Instr.ld_sp_d16 (mkWord_hi_lo v)
theorem ld_ma16_sp (a : Word) : Statement (.ld_ma16_sp a) := by
  simp only [Statement, Instr.opcode]; exact congrArg Instr.ld_ma16_sp (mkWord_hi_lo a)
theorem ld_sp_hl : Statement (.ld_sp_hl) := rfl
theorem ld_hl_sp_e8 (e : Byte) : Statement (.ld_hl_sp_e8 e) := by
  simp only [Statement, Instr.opcode]; exact rfl
theorem push_bc : Statement (.push_bc) := rfl
theorem push_de : Statement (.push_de) := rfl
theorem push_hl : Statement (.push_hl) := rfl
theorem push_af : Statement (.push_af) := rfl
theorem pop_bc : Statement (.pop_bc) := rfl
theorem pop_de : Statement (.pop_de) := rfl
theorem pop_hl : Statement (.pop_hl) := rfl
theorem pop_af : Statement (.pop_af) := rfl
theorem call_a16 (a : Word) : Statement (.call_a16 a) := by
  simp only [Statement, Instr.opcode]; exact congrArg Instr.call_a16 (mkWord_hi_lo a)
theorem call_nz_a16 (a : Word) : Statement (.call_nz_a16 a) := by
  simp only [Statement, Instr.opcode]; exact congrArg Instr.call_nz_a16 (mkWord_hi_lo a)
theorem call_z_a16 (a : Word) : Statement (.call_z_a16 a) := by
  simp only [Statement, Instr.opcode]; exact congrArg Instr.call_z_a16 (mkWord_hi_lo a)
theorem call_nc_a16 (a : Word) : Statement (.call_nc_a16 a) := by
  simp only [Statement, Instr.opcode]; exact congrArg Instr.call_nc_a16 (mkWord_hi_lo a)
theorem call_c_a16 (a : Word) : Statement (.call_c_a16 a) := by
  simp only [Statement, Instr.opcode]; exact congrArg Instr.call_c_a16 (mkWord_hi_lo a)
theorem ret : Statement (.ret) := rfl
theorem ret_nz : Statement (.ret_nz) := rfl
theorem ret_z : Statement (.ret_z) := rfl
theorem ret_nc : Statement (.ret_nc) := rfl
theorem ret_c : Statement (.ret_c) := rfl
theorem prefix_cb (op : Byte) : Statement (.prefix_cb op) := by
  simp only [Statement, Instr.opcode]; exact rfl
theorem unassigned_03 : Statement (.unassigned_03) := rfl
theorem unassigned_04 : Statement (.unassigned_04) := rfl
theorem unassigned_05 : Statement (.unassigned_05) := rfl
theorem unassigned_07 : Statement (.unassigned_07) := rfl
theorem unassigned_0b : Statement (.unassigned_0b) := rfl
theorem unassigned_0c : Statement (.unassigned_0c) := rfl
theorem unassigned_0d : Statement (.unassigned_0d) := rfl
theorem unassigned_0f : Statement (.unassigned_0f) := rfl
theorem unassigned_10 : Statement (.unassigned_10) := rfl
theorem unassigned_13 : Statement (.unassigned_13) := rfl
theorem unassigned_14 : Statement (.unassigned_14) := rfl
theorem unassigned_15 : Statement (.unassigned_15) := rfl
theorem unassigned_17 : Statement (.unassigned_17) := rfl
theorem unassigned_18 : Statement (.unassigned_18) := rfl
theorem unassigned_1b : Statement (.unassigned_1b) := rfl
theorem unassigned_1c : Statement (.unassigned_1c) := rfl
theorem unassigned_1d : Statement (.unassigned_1d) := rfl
theorem unassigned_1f : Statement (.unassigned_1f) := rfl
theorem unassigned_20 : Statement (.unassigned_20) := rfl
theorem unassigned_23 : Statement (.unassigned_23) := rfl
theorem unassigned_24 : Statement (.unassigned_24) := rfl
theorem unassigned_25 : Statement (.unassigned_25) := rfl
theorem unassigned_27 : Statement (.unassigned_27) := rfl
theorem unassigned_28 : Statement (.unassigned_28) := rfl
theorem unassigned_2b : Statement (.unassigned_2b) := rfl
theorem unassigned_2c : Statement (.unassigned_2c) := rfl
theorem unassigned_2d : Statement (.unassigned_2d) := rfl
theorem unassigned_2f : Statement (.unassigned_2f) := rfl
theorem unassigned_30 : Statement (.unassigned_30) := rfl
theorem unassigned_33 : Statement (.unassigned_33) := rfl
theorem unassigned_34 : Statement (.unassigned_34) := rfl
theorem unassigned_35 : Statement (.unassigned_35) := rfl
theorem unassigned_37 : Statement (.unassigned_37) := rfl
theorem unassigned_38 : Statement (.unassigned_38) := rfl
theorem unassigned_3b : Statement (.unassigned_3b) := rfl
theorem unassigned_3c : Statement (.unassigned_3c) := rfl
theorem unassigned_3d : Statement (.unassigned_3d) := rfl
theorem unassigned_3f : Statement (.unassigned_3f) := rfl
theorem unassigned_76 : Statement (.unassigned_76) := rfl
theorem unassigned_c7 : Statement (.unassigned_c7) := rfl
theorem unassigned_cf : Statement (.unassigned_cf) := rfl
theorem unassigned_d3 : Statement (.unassigned_d3) := rfl
theorem unassigned_d7 : Statement (.unassigned_d7) := rfl
theorem unassigned_d9 : Statement (.unassigned_d9) := rfl
theorem unassigned_db : Statement (.unassigned_db) := rfl
theorem unassigned_dd : Statement (.unassigned_dd) := rfl
theorem unassigned_df : Statement (.unassigned_df) := rfl
theorem unassigned_e3 : Statement (.unassigned_e3) := rfl
theorem unassigned_e4 : Statement (.unassigned_e4) := rfl
theorem unassigned_e7 : Statement (.unassigned_e7) := rfl
theorem unassigned_e9 : Statement (.unassigned_e9) := rfl
theorem unassigned_eb : Statement (.unassigned_eb) := rfl
theorem unassigned_ec : Statement (.unassigned_ec) := rfl
theorem unassigned_ed : Statement (.unassigned_ed) := rfl
theorem unassigned_ef : Statement (.unassigned_ef) := rfl
theorem unassigned_f3 : Statement (.unassigned_f3) := rfl
theorem unassigned_f4 : Statement (.unassigned_f4) := rfl
theorem unassigned_f7 : Statement (.unassigned_f7) := rfl
theorem unassigned_fb : Statement (.unassigned_fb) := rfl
theorem unassigned_fc : Statement (.unassigned_fc) := rfl
theorem unassigned_fd : Statement (.unassigned_fd) := rfl
theorem unassigned_ff : Statement (.unassigned_ff) := rfl

end Sys2Proof.Laws.OpcodeRow
end

