-- ==== Sys2Proof/Laws/Reset.lean ====
section
/-! SUPPORT. The memory built from a function of addresses. -/

namespace Sys2Proof.Machine

namespace Memory

/-- The cells that a list of rising addresses contributes. -/
theorem read_filterMap_range' (f : Word → Byte) (start n k : Nat) :
    read ((List.range' start n).filterMap fun j =>
        if f (BitVec.ofNat 16 j) = Config.unlistedByte then none else some (j, f (BitVec.ofNat 16 j))) k =
      if start ≤ k ∧ k < start + n then f (BitVec.ofNat 16 k) else Config.unlistedByte := by
  induction n generalizing start with
  | zero => simp [read]
  | succ n ih =>
    rw [List.range'_succ, List.filterMap_cons]
    by_cases hk : start = k
    · subst hk
      by_cases hf : f (BitVec.ofNat 16 start) = Config.unlistedByte <;> simp [hf, ih, read]
    · by_cases hf : f (BitVec.ofNat 16 start) = Config.unlistedByte <;>
        simp only [hf, if_true, if_false, ih, read, hk] <;> congr 1 <;> simp <;> omega

theorem wf_filterMap_range' (f : Word → Byte) (start n : Nat) (h : start + n ≤ Config.memSize) :
    wf ((List.range' start n).filterMap fun j =>
      if f (BitVec.ofNat 16 j) = Config.unlistedByte then none else some (j, f (BitVec.ofNat 16 j))) = true := by
  induction n generalizing start with
  | zero => simp [wf]
  | succ n ih =>
    rw [List.range'_succ, List.filterMap_cons]
    by_cases hf : f (BitVec.ofNat 16 start) = Config.unlistedByte
    · simpa only [hf, if_true] using ih (start + 1) (by omega)
    · simp only [hf, if_false]
      refine wf_cons.mpr ⟨by omega, hf, ?_, ih (start + 1) (by omega)⟩
      simp only [List.all_eq_true, List.mem_filterMap, List.mem_range'_1, decide_eq_true_eq]
      rintro cell ⟨j, hj, hc⟩
      split at hc
      · cases hc
      · cases hc; show start < j; omega

/-- The canonical form holds of the memory of any function (R25, RESET_MEM). -/
theorem wf_ofFun (f : Word → Byte) : (ofFun f).wf = true := by
  rw [ofFun, List.range_eq_range']
  exact wf_filterMap_range' f 0 _ (by simp)

end Memory

end Sys2Proof.Machine
end

