-- ==== Sys2Proof/Laws/Run.lean ====
section
/-! SUPPORT. What the shared operation of a variant can do to memory and to the run status, said once; a run of steps; and
reset at its defaults. -/

namespace Sys2Proof.Machine

/-- No variant changes the run status: only a missing entry does (R243). -/
@[simp] theorem status_run (s : State) (v : Variant) : (s.run v).status = s.status := by
  cases v <;> simp [State.run, State.runNop, State.runAlu, State.runAddHL, State.runAddSP, State.runJp, State.runLoad8,
    State.runLoadPair, State.runStoreSP, State.runLoadSPHL, State.runLoadHLSP, State.runPush, State.runPop,
    State.runCall, State.runRet, State.push16_eq, State.pop16_eq, State.writeWord]
  case alu op src => rw [State.alu_frame]
  all_goals (split <;> simp)

/-- The memory after a variant is the memory before it with the variant's data accesses replayed (R48). -/
theorem mem_run (s : State) (v : Variant) : (s.run v).mem = s.mem.replay (s.dataAccesses v) := by
  cases v with
  | load8 dst src =>
    cases dst <;> cases src <;> simp [State.run, State.runLoad8, State.dataAccesses, State.srcAccesses,
      State.dstAccesses, Memory.replay, State.writeDst, State.readAccess]
  | alu op src => cases op <;> cases src <;> rfl
  | loadPair rr v => cases rr <;> rfl
  | jp cc a => simp only [State.run, State.runJp]; split <;> rfl
  | call cc a => simp only [State.run, State.runCall, State.push16_eq, State.dataAccesses]; split <;> rfl
  | ret cc => simp only [State.run, State.runRet, State.pop16_eq, State.dataAccesses]; split <;> rfl
  | push p => show (s.push16 _).mem = _; rw [State.push16_eq]; rfl
  | pop p => cases p <;> rfl
  | _ => rfl

/-- Replaying accesses keeps the canonical form. -/
theorem wf_replay {m : Memory} (l : List Access) (h : m.wf = true) : (m.replay l).wf = true := by
  induction l generalizing m with
  | nil => exact h
  | cons x l ih =>
    cases x with
    | read a v => exact ih h
    | write a v => exact ih (Memory.wf_write v h a.isLt)

/-- Every variant keeps the canonical form of memory. -/
theorem wf_run {s : State} (v : Variant) (h : s.mem.wf = true) : (s.run v).mem.wf = true := by
  rw [mem_run]; exact wf_replay _ h

/-- One step of a run, peeled off its front. -/
theorem run_succ (k : Nat) (s t : State) (h : step s = .next t) : Sys2Proof.core.run (k + 1) s = Sys2Proof.core.run k t := by
  have hs : Sys2Proof.core.step s = .next t := h
  simp only [Host.Core.run, hs]

/-- A run of one step or more that begins with a fault is that fault. -/
theorem run_succ_fault (k : Nat) (s : State) (r : Fault) (h : step s = .fault r) :
    Sys2Proof.core.run (k + 1) s = .fault r := by
  have hs : Sys2Proof.core.step s = .fault r := h
  simp only [Host.Core.run, hs]

/-- The memory of the constant default lists nothing. -/
theorem Memory.ofFun_unlisted : Memory.ofFun (fun _ => Config.unlistedByte) = [] := by
  unfold Memory.ofFun
  exact List.filterMap_eq_nil_iff.mpr fun k _ => if_pos rfl

/-- `State.reset` is the construction at its defaults (R25, R270). -/
theorem construct_default : State.construct {} = State.reset := by
  show State.mk _ _ _ _ _ _ _ _ _ _ (Memory.ofFun fun _ => Config.unlistedByte) _ = _
  rw [Memory.ofFun_unlisted]; rfl

end Sys2Proof.Machine
end

