-- ==== Sys2Proof/Laws/Step.lean ====
section
/-! SUPPORT. Fetching and stepping, said once: the bytes of an instruction at PC are fetched as that instruction. -/

namespace Sys2Proof.Machine

/-- Bytes at PC that begin with an instruction's encoding are fetched as that instruction. -/
theorem fetch_of_bytes {i : Instr} {s : State} (h : encode i <+: s.bytesAtPC) : s.fetch = i := by
  obtain ⟨h0, h⟩ := List.cons_prefix_cons.mp h
  rw [State.fetch, ← h0]
  exact decodeAt_of_operands h

/-- A Running machine with an instruction's bytes at PC runs that instruction. -/
theorem step_of_bytes {i : Instr} {s : State} (hr : s.status = .running) (h : encode i <+: s.bytesAtPC) :
    step s = exec i s := by
  rw [step, hr, fetch_of_bytes h]

/-- A Faulted machine has no step. -/
theorem step_of_faulted {s : State} {r : FatalCondition} (h : s.status = .faulted r) :
    step s = .fault (.halted r) := by
  rw [step, h]

end Sys2Proof.Machine
end

