-- ==== Sys2Proof/Tests/Slice0.lean ====
section
/-! SUPPORT. Tests of the model against the spec, and witnesses that the hypotheses of the statements can be met.
Expected values come from spec/95_test_vectors.md, from the encoding column of spec/opcode_table.json, or from the rule
named; none is the model's own answer. -/

namespace Sys2Proof.Tests

open Sys2Proof.Machine Sys2Proof.Statements

/-! ### Well-formedness: each check refuses an ill-formed term -/

/-- An unassigned row and the prefix have no well-formed instruction (R86, R87). -/
theorem test_wf_unassigned : Instr.wf .unassigned_03 = false ∧ Instr.wf (.prefix_cb 0x37) = false ∧
    Instr.wf .ld_a_mhli = true := by decide

/-- No memory-to-memory load (R91, R180). -/
theorem test_wf_no_memory_to_memory : Variant.wf (.load8 (.mem .hl) (.mem .hl)) = false ∧
    Variant.wf (.load8 (.mem .bc) (.mem .hl)) = false := by decide

/-- (BC), (DE), (HL+), (HL-), (a16), (a8), (C) pair only with A (R160). -/
theorem test_wf_load_only_with_a : Variant.wf (.load8 (.reg .b) (.mem .bc)) = false ∧
    Variant.wf (.load8 (.mem .de) (.reg .b)) = false ∧ Variant.wf (.load8 (.reg .l) (.mem .hlInc)) = false ∧
    Variant.wf (.load8 (.mem .hlDec) (.reg .h)) = false ∧ Variant.wf (.load8 (.mem (.direct 0xC000)) (.reg .b)) = false ∧
    Variant.wf (.load8 (.reg .c) (.mem (.high 0x80))) = false ∧ Variant.wf (.load8 (.reg .c) (.mem .highC)) = false ∧
    Variant.wf (.load8 (.mem .bc) (.d8 0)) = false := by decide

/-- No ALU forms but r, (HL), d8 (R125). -/
theorem test_wf_alu_forms : Variant.wf (.alu .add (.mem .bc)) = false ∧ Variant.wf (.alu .cp (.mem .hlInc)) = false ∧
    Variant.wf (.alu .xor (.mem (.direct 0xC000))) = false ∧ Variant.wf (.alu .or (.mem .highC)) = false ∧
    Variant.wf (.alu .or (.mem .hl)) = true := by decide

/-- An entry's declared length is 1 plus its immediate bytes (R72). -/
theorem test_wf_entry_length : Entry.wf ⟨.jp_a16 0x1234, 2, 0⟩ = false ∧ Entry.wf ⟨.jp_a16 0x1234, 3, 0⟩ = true ∧
    Entry.wf ⟨.unassigned_76, 1, 0⟩ = false := by decide

/-- The canonical form of memory: not rising, twice the same, a listed zero, beyond the space. -/
theorem test_wf_memory : Memory.wf [(5, 1), (4, 1)] = false ∧ Memory.wf [(4, 1), (4, 2)] = false ∧
    Memory.wf [(4, 0)] = false ∧ Memory.wf [(65536, 1)] = false ∧ Memory.wf [(0, 1), (65535, 2)] = true := by decide

/-! ### Decoding: the opcode bytes as the encoding column writes them, the bytes 0x34, 0x12 after each -/

/-- The instruction each opcode byte selects, with 0x34 and 0x12 after it. -/
def opcodes (bytes : List Byte) : List Instr := bytes.map fun b => decodeAt b 0x34 0x12

theorem test_row_0 :
    opcodes [0b00000000, 0b00000001, 0b00000010, 0b00000011, 0b00000100, 0b00000101, 0b00000110, 0b00000111,
      0b00001000, 0b00001001, 0b00001010, 0b00001011, 0b00001100, 0b00001101, 0b00001110, 0b00001111] =
     [.nop, .ld_bc_d16 0x1234, .ld_mbc_a, .unassigned_03,
      .unassigned_04, .unassigned_05, .ld_b_d8 0x34, .unassigned_07,
      .ld_ma16_sp 0x1234, .add_hl_bc, .ld_a_mbc, .unassigned_0b,
      .unassigned_0c, .unassigned_0d, .ld_c_d8 0x34, .unassigned_0f] := by decide

theorem test_row_1 :
    opcodes [0b00010000, 0b00010001, 0b00010010, 0b00010011, 0b00010100, 0b00010101, 0b00010110, 0b00010111,
      0b00011000, 0b00011001, 0b00011010, 0b00011011, 0b00011100, 0b00011101, 0b00011110, 0b00011111] =
     [.unassigned_10, .ld_de_d16 0x1234, .ld_mde_a, .unassigned_13,
      .unassigned_14, .unassigned_15, .ld_d_d8 0x34, .unassigned_17,
      .unassigned_18, .add_hl_de, .ld_a_mde, .unassigned_1b,
      .unassigned_1c, .unassigned_1d, .ld_e_d8 0x34, .unassigned_1f] := by decide

theorem test_row_2 :
    opcodes [0b00100000, 0b00100001, 0b00100010, 0b00100011, 0b00100100, 0b00100101, 0b00100110, 0b00100111,
      0b00101000, 0b00101001, 0b00101010, 0b00101011, 0b00101100, 0b00101101, 0b00101110, 0b00101111] =
     [.unassigned_20, .ld_hl_d16 0x1234, .ld_mhli_a, .unassigned_23,
      .unassigned_24, .unassigned_25, .ld_h_d8 0x34, .unassigned_27,
      .unassigned_28, .add_hl_hl, .ld_a_mhli, .unassigned_2b,
      .unassigned_2c, .unassigned_2d, .ld_l_d8 0x34, .unassigned_2f] := by decide

theorem test_row_3 :
    opcodes [0b00110000, 0b00110001, 0b00110010, 0b00110011, 0b00110100, 0b00110101, 0b00110110, 0b00110111,
      0b00111000, 0b00111001, 0b00111010, 0b00111011, 0b00111100, 0b00111101, 0b00111110, 0b00111111] =
     [.unassigned_30, .ld_sp_d16 0x1234, .ld_mhld_a, .unassigned_33,
      .unassigned_34, .unassigned_35, .ld_mhl_d8 0x34, .unassigned_37,
      .unassigned_38, .add_hl_sp, .ld_a_mhld, .unassigned_3b,
      .unassigned_3c, .unassigned_3d, .ld_a_d8 0x34, .unassigned_3f] := by decide

theorem test_row_4 :
    opcodes [0b01000000, 0b01000001, 0b01000010, 0b01000011, 0b01000100, 0b01000101, 0b01000110, 0b01000111,
      0b01001000, 0b01001001, 0b01001010, 0b01001011, 0b01001100, 0b01001101, 0b01001110, 0b01001111] =
     [.ld_b_b, .ld_b_c, .ld_b_d, .ld_b_e,
      .ld_b_h, .ld_b_l, .ld_b_mhl, .ld_b_a,
      .ld_c_b, .ld_c_c, .ld_c_d, .ld_c_e,
      .ld_c_h, .ld_c_l, .ld_c_mhl, .ld_c_a] := by decide

theorem test_row_5 :
    opcodes [0b01010000, 0b01010001, 0b01010010, 0b01010011, 0b01010100, 0b01010101, 0b01010110, 0b01010111,
      0b01011000, 0b01011001, 0b01011010, 0b01011011, 0b01011100, 0b01011101, 0b01011110, 0b01011111] =
     [.ld_d_b, .ld_d_c, .ld_d_d, .ld_d_e,
      .ld_d_h, .ld_d_l, .ld_d_mhl, .ld_d_a,
      .ld_e_b, .ld_e_c, .ld_e_d, .ld_e_e,
      .ld_e_h, .ld_e_l, .ld_e_mhl, .ld_e_a] := by decide

theorem test_row_6 :
    opcodes [0b01100000, 0b01100001, 0b01100010, 0b01100011, 0b01100100, 0b01100101, 0b01100110, 0b01100111,
      0b01101000, 0b01101001, 0b01101010, 0b01101011, 0b01101100, 0b01101101, 0b01101110, 0b01101111] =
     [.ld_h_b, .ld_h_c, .ld_h_d, .ld_h_e,
      .ld_h_h, .ld_h_l, .ld_h_mhl, .ld_h_a,
      .ld_l_b, .ld_l_c, .ld_l_d, .ld_l_e,
      .ld_l_h, .ld_l_l, .ld_l_mhl, .ld_l_a] := by decide

theorem test_row_7 :
    opcodes [0b01110000, 0b01110001, 0b01110010, 0b01110011, 0b01110100, 0b01110101, 0b01110110, 0b01110111,
      0b01111000, 0b01111001, 0b01111010, 0b01111011, 0b01111100, 0b01111101, 0b01111110, 0b01111111] =
     [.ld_mhl_b, .ld_mhl_c, .ld_mhl_d, .ld_mhl_e,
      .ld_mhl_h, .ld_mhl_l, .unassigned_76, .ld_mhl_a,
      .ld_a_b, .ld_a_c, .ld_a_d, .ld_a_e,
      .ld_a_h, .ld_a_l, .ld_a_mhl, .ld_a_a] := by decide

theorem test_row_8 :
    opcodes [0b10000000, 0b10000001, 0b10000010, 0b10000011, 0b10000100, 0b10000101, 0b10000110, 0b10000111,
      0b10001000, 0b10001001, 0b10001010, 0b10001011, 0b10001100, 0b10001101, 0b10001110, 0b10001111] =
     [.add_a_b, .add_a_c, .add_a_d, .add_a_e,
      .add_a_h, .add_a_l, .add_a_mhl, .add_a_a,
      .adc_a_b, .adc_a_c, .adc_a_d, .adc_a_e,
      .adc_a_h, .adc_a_l, .adc_a_mhl, .adc_a_a] := by decide

theorem test_row_9 :
    opcodes [0b10010000, 0b10010001, 0b10010010, 0b10010011, 0b10010100, 0b10010101, 0b10010110, 0b10010111,
      0b10011000, 0b10011001, 0b10011010, 0b10011011, 0b10011100, 0b10011101, 0b10011110, 0b10011111] =
     [.sub_b, .sub_c, .sub_d, .sub_e,
      .sub_h, .sub_l, .sub_mhl, .sub_a,
      .sbc_a_b, .sbc_a_c, .sbc_a_d, .sbc_a_e,
      .sbc_a_h, .sbc_a_l, .sbc_a_mhl, .sbc_a_a] := by decide

theorem test_row_a :
    opcodes [0b10100000, 0b10100001, 0b10100010, 0b10100011, 0b10100100, 0b10100101, 0b10100110, 0b10100111,
      0b10101000, 0b10101001, 0b10101010, 0b10101011, 0b10101100, 0b10101101, 0b10101110, 0b10101111] =
     [.and_b, .and_c, .and_d, .and_e,
      .and_h, .and_l, .and_mhl, .and_a,
      .xor_b, .xor_c, .xor_d, .xor_e,
      .xor_h, .xor_l, .xor_mhl, .xor_a] := by decide

theorem test_row_b :
    opcodes [0b10110000, 0b10110001, 0b10110010, 0b10110011, 0b10110100, 0b10110101, 0b10110110, 0b10110111,
      0b10111000, 0b10111001, 0b10111010, 0b10111011, 0b10111100, 0b10111101, 0b10111110, 0b10111111] =
     [.or_b, .or_c, .or_d, .or_e,
      .or_h, .or_l, .or_mhl, .or_a,
      .cp_b, .cp_c, .cp_d, .cp_e,
      .cp_h, .cp_l, .cp_mhl, .cp_a] := by decide

theorem test_row_c :
    opcodes [0b11000000, 0b11000001, 0b11000010, 0b11000011, 0b11000100, 0b11000101, 0b11000110, 0b11000111,
      0b11001000, 0b11001001, 0b11001010, 0b11001011, 0b11001100, 0b11001101, 0b11001110, 0b11001111] =
     [.ret_nz, .pop_bc, .jp_nz_a16 0x1234, .jp_a16 0x1234,
      .call_nz_a16 0x1234, .push_bc, .add_a_d8 0x34, .unassigned_c7,
      .ret_z, .ret, .jp_z_a16 0x1234, .prefix_cb 0x34,
      .call_z_a16 0x1234, .call_a16 0x1234, .adc_a_d8 0x34, .unassigned_cf] := by decide

theorem test_row_d :
    opcodes [0b11010000, 0b11010001, 0b11010010, 0b11010011, 0b11010100, 0b11010101, 0b11010110, 0b11010111,
      0b11011000, 0b11011001, 0b11011010, 0b11011011, 0b11011100, 0b11011101, 0b11011110, 0b11011111] =
     [.ret_nc, .pop_de, .jp_nc_a16 0x1234, .unassigned_d3,
      .call_nc_a16 0x1234, .push_de, .sub_d8 0x34, .unassigned_d7,
      .ret_c, .unassigned_d9, .jp_c_a16 0x1234, .unassigned_db,
      .call_c_a16 0x1234, .unassigned_dd, .sbc_a_d8 0x34, .unassigned_df] := by decide

theorem test_row_e :
    opcodes [0b11100000, 0b11100001, 0b11100010, 0b11100011, 0b11100100, 0b11100101, 0b11100110, 0b11100111,
      0b11101000, 0b11101001, 0b11101010, 0b11101011, 0b11101100, 0b11101101, 0b11101110, 0b11101111] =
     [.ldh_ma8_a 0x34, .pop_hl, .ld_mc_a, .unassigned_e3,
      .unassigned_e4, .push_hl, .and_d8 0x34, .unassigned_e7,
      .add_sp_e8 0x34, .unassigned_e9, .ld_ma16_a 0x1234, .unassigned_eb,
      .unassigned_ec, .unassigned_ed, .xor_d8 0x34, .unassigned_ef] := by decide

theorem test_row_f :
    opcodes [0b11110000, 0b11110001, 0b11110010, 0b11110011, 0b11110100, 0b11110101, 0b11110110, 0b11110111,
      0b11111000, 0b11111001, 0b11111010, 0b11111011, 0b11111100, 0b11111101, 0b11111110, 0b11111111] =
     [.ldh_a_ma8 0x34, .pop_af, .ld_a_mc, .unassigned_f3,
      .unassigned_f4, .push_af, .or_d8 0x34, .unassigned_f7,
      .ld_hl_sp_e8 0x34, .ld_sp_hl, .ld_a_ma16 0x1234, .unassigned_fb,
      .unassigned_fc, .unassigned_fd, .cp_d8 0x34, .unassigned_ff] := by decide

/-- Table words, numbered from the least significant bit of the first byte; bits above the row's are 0. -/
theorem test_table_words : decodeTableWord 8 0x00 = some .nop ∧ decodeTableWord 24 0x1234C3 = some (.jp_a16 0x1234) ∧
    decodeTableWord 8 0xC3 = some (.jp_a16 0) ∧ decodeTableWord 16 0xF8E8 = some (.add_sp_e8 0xF8) ∧
    decodeTableWord 8 0x76 = some .unassigned_76 ∧ decodeTableWord 16 0x37CB = some (.prefix_cb 0x37) := by decide

/-- A byte list that ends inside an instruction holds none. -/
theorem test_decode_truncated : decode [] = .error .noOpcode ∧ decode [0xC3, 0x34] = .error (.missingOperand 0xC3) := by
  exact ⟨rfl, rfl⟩

/-! ### One step, against the vectors of 95_test_vectors.md -/

/-- A state with its flags given as a packed byte. -/
def withF (s : State) (v : Byte) : State := { s with f := Flags.unpack v }

/-- The reset state with a program at an address, and PC there. -/
def code (pc : Word) (bytes : List Byte) : State := { State.reset with pc := pc }.placeBytes pc bytes

/-- What a function of the state gives after one step, if the step answers a next state. -/
def after {α : Type} (s : State) (view : State → α) : Option α :=
  match step s with
  | .next t => some (view t)
  | .fault _ => none
  | .refused _ => none

/-- A, the packed flags, PC. -/
def afp (s : State) : Byte × Byte × Word := (s.a, s.f.pack, s.pc)

/-- HL, the packed flags, PC. -/
def hfp (s : State) : Word × Byte × Word := (s.pair .hl, s.f.pack, s.pc)

theorem test_nop_pc_wraps : after (code 0xFFFF [0x00]) (·.pc) = some 0x0000 := by decide
theorem test_nop_scenario_4 : after (code 0x0100 [0x00]) id = some { code 0x0100 [0x00] with pc := 0x0101 } := by decide

theorem test_add_scenario_1 : after { code 0x0100 [0x80] with a := 0x0F, b := 0x01 } afp = some (0x10, 0x20, 0x0101) := by
  decide
theorem test_add_scenario_2 : after { code 0x0100 [0x80] with a := 0xFF, b := 0x01 } afp = some (0x00, 0xB0, 0x0101) := by
  decide
theorem test_add_a_a : after { code 0x0100 [0x87] with a := 0x80 } afp = some (0x00, 0x90, 0x0101) := by decide
theorem test_add_d8 : after { code 0x0100 [0xC6, 0x10] with a := 0xF0 } afp = some (0x00, 0x90, 0x0102) := by decide
theorem test_add_mhl : after ({ code 0x0100 [0x86] with a := 0x01, h := 0xC0 }.writeByte 0xC000 0x0F) afp =
    some (0x10, 0x20, 0x0101) := by decide
theorem test_adc_largest : after { withF (code 0x0100 [0x88]) 0x10 with a := 0xFF, b := 0xFF } afp =
    some (0xFF, 0x30, 0x0101) := by decide
theorem test_adc_half_by_carry_in : after { withF (code 0x0100 [0x88]) 0x10 with a := 0x0F } afp =
    some (0x10, 0x20, 0x0101) := by decide
theorem test_adc_d8 : after (withF (code 0x0100 [0xCE, 0x00]) 0x10) afp = some (0x01, 0x00, 0x0102) := by decide
theorem test_sub_half_borrow : after { code 0x0100 [0x90] with a := 0x10, b := 0x01 } afp =
    some (0x0F, 0x60, 0x0101) := by decide
theorem test_sub_borrow_only : after { code 0x0100 [0x90] with a := 0x3E, b := 0x40 } afp =
    some (0xFE, 0x50, 0x0101) := by decide
theorem test_sub_d8 : after { code 0x0100 [0xD6, 0x01] with a := 0x01 } afp = some (0x00, 0xC0, 0x0102) := by decide
theorem test_sbc_borrow_in_alone : after (withF (code 0x0100 [0x98]) 0x10) afp = some (0xFF, 0x70, 0x0101) := by decide
theorem test_sbc_exact : after { withF (code 0x0100 [0x98]) 0x10 with a := 0x3B, b := 0x4F } afp =
    some (0xEB, 0x70, 0x0101) := by decide
theorem test_and_d8 : after { withF (code 0x0100 [0xE6, 0x38]) 0x10 with a := 0x5A } afp =
    some (0x18, 0x20, 0x0102) := by decide
theorem test_xor_mhl : after ({ code 0x0100 [0xAE] with a := 0xFF, h := 0xC0 }.writeByte 0xC000 0x8A) afp =
    some (0x75, 0x00, 0x0101) := by decide
theorem test_or_a : after { withF (code 0x0100 [0xB7]) 0x70 with a := 0x09 } afp = some (0x09, 0x00, 0x0101) := by decide
theorem test_cp_b : after { code 0x0100 [0xB8] with a := 0x07, b := 0x09 } afp = some (0x07, 0x70, 0x0101) := by decide
theorem test_cp_d8 : after (code 0x0100 [0xFE, 0x01]) afp = some (0x00, 0x70, 0x0102) := by decide

theorem test_add_hl_bc_bit_11 : after { code 0x0100 [0x09] with h := 0x0F, l := 0xFF, c := 0x01 } hfp =
    some (0x1000, 0x20, 0x0101) := by decide
theorem test_add_hl_bc_keeps_zero : after { withF (code 0x0100 [0x09]) 0x80 with h := 0x80, b := 0x80 } hfp =
    some (0x0000, 0x90, 0x0101) := by decide
theorem test_add_hl_de : after { withF (code 0x0100 [0x19]) 0x40 with h := 0x00, l := 0xFF, e := 0x01 } hfp =
    some (0x0100, 0x00, 0x0101) := by decide
theorem test_add_hl_hl : after { code 0x0100 [0x29] with h := 0x88 } hfp = some (0x1000, 0x30, 0x0101) := by decide
theorem test_add_hl_sp : after { withF (code 0x0100 [0x39]) 0x80 with h := 0xFF, l := 0xFF, sp := 0x0001 }
    (fun s => (hfp s, s.sp)) = some ((0x0000, 0xB0, 0x0101), 0x0001) := by decide
theorem test_add_sp_negative : after { code 0x0100 [0xE8, 0xF8] with sp := 0xFFF8 } (fun s => (s.sp, s.f.pack, s.pc)) =
    some (0xFFF0, 0x30, 0x0102) := by decide
theorem test_add_sp_zero_result : after { code 0x0100 [0xE8, 0xFF] with sp := 0x0001 } (fun s => (s.sp, s.f.pack)) =
    some (0x0000, 0x30) := by decide
theorem test_ld_hl_sp_negative : after (withF (code 0x0100 [0xF8, 0xFF]) 0xF0) (fun s => (hfp s, s.sp)) =
    some ((0xFFFF, 0x00, 0x0102), 0x0000) := by decide

theorem test_jp_operands_wrap : after (code 0xFFFE [0xC3, 0x78, 0x56]) (·.pc) = some 0x5678 := by decide
theorem test_jp_nz_not_taken_wraps : after (withF (code 0xFFFE [0xC2, 0x00, 0x30]) 0x80) (·.pc) = some 0x0001 := by decide
theorem test_jp_z : after (withF (code 0x0200 [0xCA, 0x00, 0x30]) 0x80) (·.pc) = some 0x3000 := by decide
theorem test_jp_nc : after (withF (code 0x0200 [0xD2, 0x00, 0x30]) 0xE0) (·.pc) = some 0x3000 := by decide
theorem test_jp_c_not_taken : after (withF (code 0x0200 [0xDA, 0x00, 0x30]) 0xE0) (·.pc) = some 0x0203 := by decide
theorem test_bus_jp_c_not_taken : (withF (code 0x0200 [0xDA, 0x00, 0x30]) 0xE0).busAccesses = [.read 0x0200 0xDA] := by
  decide
theorem test_bus_jp : (code 0xFFFE [0xC3, 0x78, 0x56]).busAccesses =
    [.read 0xFFFE 0xC3, .read 0xFFFF 0x78, .read 0x0000 0x56] := by decide

theorem test_ld_c_a : after { code 0x0100 [0x4F] with a := 0x05 } (fun s => (s.c, s.a, s.pc)) =
    some (0x05, 0x05, 0x0101) := by decide
theorem test_ld_h_mhl : after ({ code 0x0100 [0x66] with h := 0xC0 }.writeByte 0xC000 0xD1) (·.pair .hl) =
    some 0xD100 := by decide
theorem test_ld_mhl_l : after { code 0x0100 [0x75] with h := 0xC0, l := 0xAB } (·.readByte 0xC0AB) = some 0xAB := by decide
theorem test_ld_b_d8 : after (code 0x0100 [0x06, 0x09]) (fun s => (s.b, s.pc)) = some (0x09, 0x0102) := by decide
theorem test_ld_mhl_d8 : after { code 0x0100 [0x36, 0x99] with h := 0xC0, l := 0x02 }
    (fun s => (s.readByte 0xC002, s.pc)) = some (0x99, 0x0102) := by decide
theorem test_ld_mbc_a : after { code 0x0100 [0x02] with b := 0xC1, c := 0x23, a := 0x9C } (·.readByte 0xC123) =
    some 0x9C := by decide
theorem test_ld_a_mde : after ({ code 0x0100 [0x1A] with d := 0xC4, e := 0x56 }.writeByte 0xC456 0x3D) (·.a) =
    some 0x3D := by decide
theorem test_ld_mhli_wraps : after { code 0x0100 [0x22] with h := 0xFF, l := 0xFF, a := 0x5A }
    (fun s => (s.readByte 0xFFFF, s.pair .hl)) = some (0x5A, 0x0000) := by decide
theorem test_ld_mhld_wraps : after { code 0x0100 [0x32] with a := 0x01 } (fun s => (s.readByte 0x0000, s.pair .hl)) =
    some (0x01, 0xFFFF) := by decide
theorem test_ld_a_mhli : after ({ code 0x0100 [0x2A] with h := 0xC0, l := 0x01 }.writeByte 0xC001 0x22)
    (fun s => (s.a, s.pair .hl)) = some (0x22, 0xC002) := by decide
theorem test_ld_a_mhld_wraps : after ((code 0x0100 [0x3A]).writeByte 0x0000 0x77) (fun s => (s.a, s.pair .hl)) =
    some (0x77, 0xFFFF) := by decide
theorem test_ld_ma16_a_on_itself : after { code 0x0100 [0xEA, 0x01, 0x01] with a := 0x55 }
    (fun s => (s.readByte 0x0101, s.pc)) = some (0x55, 0x0103) := by decide
theorem test_ld_a_ma16 : after ((code 0x0100 [0xFA, 0x02, 0xC0]).writeByte 0xC002 0x33) (fun s => (s.a, s.pc)) =
    some (0x33, 0x0103) := by decide
theorem test_ldh_ma8_a : after { code 0x0100 [0xE0, 0x81] with a := 0x22 } (fun s => (s.readByte 0xFF81, s.pc)) =
    some (0x22, 0x0102) := by decide
theorem test_ldh_a_ma8 : after ((code 0x0100 [0xF0, 0x80]).writeByte 0xFF80 0x22) (·.a) = some 0x22 := by decide
theorem test_ld_mc_a : after { code 0x0100 [0xE2] with a := 0x22, c := 0x80 } (fun s => (s.readByte 0xFF80, s.pc)) =
    some (0x22, 0x0101) := by decide
theorem test_ld_a_mc_top : after ({ code 0x0100 [0xF2] with c := 0xFF }.writeByte 0xFFFF 0x42) (·.a) = some 0x42 := by
  decide
theorem test_bus_ld_mhl_d8 : { code 0x0100 [0x36, 0x99] with h := 0xC0, l := 0x02 }.busAccesses =
    [.read 0x0100 0x36, .read 0x0101 0x99, .write 0xC002 0x99] := by decide

theorem test_ld_bc_d16 : after (code 0x0100 [0x01, 0x34, 0x12]) (fun s => (s.b, s.c, s.pc)) =
    some (0x12, 0x34, 0x0103) := by decide
theorem test_ld_sp_d16 : after (code 0x0100 [0x31, 0xFE, 0xFF]) (·.sp) = some 0xFFFE := by decide
theorem test_ld_ma16_sp_wraps : after { code 0x0100 [0x08, 0xFF, 0xFF] with sp := 0x1234 }
    (fun s => (s.readByte 0xFFFF, s.readByte 0x0000, s.pc)) = some (0x34, 0x12, 0x0103) := by decide
theorem test_ld_sp_hl : after { code 0x0100 [0xF9] with h := 0xAB, l := 0xCD } (fun s => (s.sp, s.pair .hl)) =
    some (0xABCD, 0xABCD) := by decide

theorem test_push_bc_scenario_3 : after { code 0x0100 [0xC5] with b := 0x12, c := 0x34, sp := 0xFFFE }
    (fun s => (s.readByte 0xFFFD, s.readByte 0xFFFC, s.sp)) = some (0x12, 0x34, 0xFFFC) := by decide
theorem test_push_de_wraps : after { code 0x0100 [0xD5] with d := 0xBE, e := 0xEF, sp := 0x0001 }
    (fun s => (s.readByte 0x0000, s.readByte 0xFFFF, s.sp)) = some (0xBE, 0xEF, 0xFFFF) := by decide
theorem test_push_af : after { withF (code 0x0100 [0xF5]) 0x90 with a := 0x12, sp := 0xD000 }
    (fun s => (s.readByte 0xCFFF, s.readByte 0xCFFE, s.sp)) = some (0x12, 0x90, 0xCFFE) := by decide
theorem test_pop_hl_wraps : after ({ code 0x0100 [0xE1] with sp := 0xFFFF }.writeWord 0xFFFF 0xABCD)
    (fun s => (s.pair .hl, s.sp)) = some (0xABCD, 0x0001) := by decide
theorem test_pop_af_drops_low_nibble : after ({ code 0x0100 [0xF1] with sp := 0xCFFE }.writeWord 0xCFFE 0xA75F)
    (fun s => (s.a, s.f.pack, s.sp)) = some (0xA7, 0x50, 0xD000) := by decide
theorem test_bus_pop_bc : ({ code 0x0100 [0xC1] with sp := 0xFFFC }.writeWord 0xFFFC 0x1234).busAccesses =
    [.read 0x0100 0xC1, .read 0xFFFC 0x34, .read 0xFFFD 0x12] := by decide

theorem test_call_return_address_wraps : after { code 0xFFFD [0xCD, 0x00, 0x20] with sp := 0xD000 }
    (fun s => (s.pc, s.sp, s.readByte 0xCFFF, s.readByte 0xCFFE)) = some (0x2000, 0xCFFE, 0x00, 0x00) := by decide
theorem test_call_over_its_operand : after { code 0x0100 [0xCD, 0x34, 0x12] with sp := 0x0103 }
    (fun s => (s.pc, s.sp, s.readByte 0x0102, s.readByte 0x0101)) = some (0x1234, 0x0101, 0x01, 0x03) := by decide
theorem test_call_c_taken : after { withF (code 0x0200 [0xDC, 0x00, 0x30]) 0x10 with sp := 0xD000 }
    (fun s => (s.pc, s.sp, s.readByte 0xCFFF, s.readByte 0xCFFE)) = some (0x3000, 0xCFFE, 0x02, 0x03) := by decide
theorem test_call_c_not_taken : after { code 0x0200 [0xDC, 0x00, 0x30] with sp := 0xD000 } id =
    some { code 0x0200 [0xDC, 0x00, 0x30] with sp := 0xD000, pc := 0x0203 } := by decide
theorem test_bus_call : { code 0x0106 [0xCD, 0x10, 0x01] with sp := 0xFFFE }.busAccesses =
    [.read 0x0106 0xCD, .read 0x0107 0x10, .read 0x0108 0x01, .write 0xFFFD 0x01, .write 0xFFFC 0x09] := by decide
theorem test_ret : after ({ code 0x0114 [0xC9] with sp := 0xFFFC }.writeWord 0xFFFC 0x0109)
    (fun s => (s.pc, s.sp)) = some (0x0109, 0xFFFE) := by decide
theorem test_ret_z_not_taken : after ({ code 0x0114 [0xC8] with sp := 0xFFFC }.writeWord 0xFFFC 0x0109)
    (fun s => (s.pc, s.sp)) = some (0x0115, 0xFFFC) := by decide

theorem test_unassigned_e9 : after { code 0x0100 [0xE9] with h := 0x12, l := 0x34 } id =
    some { code 0x0100 [0xE9] with h := 0x12, l := 0x34, status := .faulted (.unknownOpcode 0xE9 false) } := by decide
theorem test_prefix_wraps : after (code 0xFFFF [0xCB, 0x11]) (fun s => (s.status, s.pc)) =
    some (.faulted (.unknownOpcode 0x11 true), 0xFFFF) := by decide
theorem test_prefix_no_nesting : after (code 0x0100 [0xCB, 0xCB]) (·.status) =
    some (.faulted (.unknownOpcode 0xCB true)) := by decide
theorem test_faulted_stops : step { code 0x0100 [0x00] with status := .faulted (.unknownOpcode 0x76 false) } =
    .fault (.halted (.unknownOpcode 0x76 false)) := rfl

/-- A table word placed after reset is the next instruction to run. -/
theorem test_fetch_word : after (State.reset.withFetchWord 24 0x1234C3) (·.pc) = some 0x1234 ∧
    after (State.reset.withFetchWord 16 0x37CB) (·.status) = some (.faulted (.unknownOpcode 0x37 true)) ∧
    (State.reset.withFetchWord 24 0x12FE31).mem = [(0, 0x31), (1, 0xFE), (2, 0x12)] := by decide

/-! ### Witnesses: the hypotheses of each statement that has some, met together -/

/-- What a statement about a variant, and its step from bytes at PC, assume. -/
abbrev Meets (i : Instr) (v : Variant) (s : State) : Prop :=
  i.variant = some v ∧ s.status = .running ∧ encode i <+: s.bytesAtPC

theorem witness_EncodeOfDecodeGivesBytesBack : decode [0xC3, 0x34, 0x12, 0xFF] = .ok (.jp_a16 0x1234, [0xFF]) ∧
    decode [0xCB, 0x37] = .ok (.prefix_cb 0x37, []) := ⟨rfl, rfl⟩

theorem witness_FieldViewAgreesWithOpcodeMap : Instr.variant (.ldh_ma8_a 0x81) =
    some (.load8 (.mem (.high 0x81)) (.reg .a)) := by decide

theorem witness_EncodableVariantsAreTheAssignedInstructions :
    Variant.wf (.load8 (.mem (.direct 0xFFFF)) (.reg .a)) = true ∧
    Instr.variant (.ld_ma16_a 0xFFFF) = some (.load8 (.mem (.direct 0xFFFF)) (.reg .a)) := by decide

theorem witness_UnassignedBytesHaveNoEntry : decodeEntry 0x03 false 0 0 = none ∧ decodeEntry 0xFF false 0 0 = none ∧
    decodeEntry 0xCB false 0 0 = none ∧ (0x03 : Byte) ∈ unassignedBytes ∧ (0xFF : Byte) ∈ unassignedBytes :=
  ⟨rfl, rfl, rfl, by decide, by decide⟩

theorem witness_DeclaredLengthMatchesImmediates :
    (∃ e, decodeEntry 0x00 false 0 0 = some e ∧ e.len = 1) ∧ (∃ e, decodeEntry 0xFE false 0x34 0 = some e ∧ e.len = 2) ∧
    (∃ e, decodeEntry 0xFA false 0x34 0x12 = some e ∧ e.len = 3) :=
  ⟨⟨_, rfl, rfl⟩, ⟨_, rfl, rfl⟩, ⟨_, rfl, rfl⟩⟩

theorem witness_StepRunsTheDecodedInstruction : (code 0xFFFF [0xC3, 0x34, 0x12]).status = .running ∧
    decode (code 0xFFFF [0xC3, 0x34, 0x12]).bytesAtPC = .ok (.jp_a16 0x1234, []) := ⟨rfl, rfl⟩

theorem witness_StepFollowsFetchAndDecode : (code 0 [0xCB]).status = .running ∧ (code 0 [0xCB]).readByte 0 = 0xCB ∧
    (code 0 [0x76]).readByte 0 ≠ 0xCB ∧ decodeEntry ((code 0 [0x76]).readByte 0) false 0 0 = none ∧
    (∃ e, decodeEntry ((code 0 [0x80]).readByte 0) false 0 0 = some e) :=
  ⟨rfl, by decide, by decide, rfl, _, rfl⟩

theorem witness_RunningMachineAlwaysSteps : State.reset.status = .running := rfl

theorem witness_FaultedIsTerminal : ∃ t, Sys2Proof.core.run 1 (code 0x0100 [0x76]) = .next t ∧
    t.status = .faulted (.unknownOpcode 0x76 false) ∧ step (code 0x0100 [0x76]) = .next t := ⟨_, rfl, rfl, rfl⟩

theorem witness_OnlyUnknownOpcodeIsRaisedAndPrecisely :
    (∃ t, step (code 0x0100 [0x76]) = .next t ∧ t.status ≠ .running) ∧
    (∃ t, step (code 0x0100 [0x00]) = .next t ∧ t.status = .running) := ⟨⟨_, rfl, by decide⟩, ⟨_, rfl, rfl⟩⟩

theorem witness_StepKeepsInvariant : (code 0xFFFF [0xCB, 0x11]).Inv ∧
    (∃ t, step (code 0xFFFF [0xCB, 0x11]) = .next t) ∧ (code 0x0100 [0xF5]).Inv ∧
    (∃ t, step (code 0x0100 [0xF5]) = .next t) := ⟨⟨by decide, trivial⟩, ⟨_, rfl⟩, ⟨by decide, trivial⟩, ⟨_, rfl⟩⟩

theorem witness_StoreIsSeenByNextFetch : Instr.variant .ld_mhl_b = some (.load8 (.mem .hl) (.reg .b)) ∧
    ∃ t, exec .ld_mhl_b { code 0x0100 [0x70] with h := 0x01, l := 0x01, b := 0x76 } = .next t ∧
      { code 0x0100 [0x70] with h := 0x01, l := 0x01, b := 0x76 }.addrOf .hl = t.pc :=
  ⟨rfl, _, rfl, by decide⟩

theorem witness_NextPCOfEveryInstruction : (∃ t, exec .unassigned_76 (code 0xFFFF [0x76]) = .next t) ∧
    (∃ t, exec (.jp_nz_a16 0x3000) (code 0xFFFF [0xC2]) = .next t) ∧
    (∃ t, exec (.call_c_a16 0x3000) (code 0xFFFF [0xDC]) = .next t) ∧ (∃ t, exec .ret_z (code 0xFFFF [0xC8]) = .next t) ∧
    (∃ t, exec (.ld_b_d8 7) (code 0xFFFF [0x06, 7]) = .next t) :=
  ⟨⟨_, rfl⟩, ⟨_, rfl⟩, ⟨_, rfl⟩, ⟨_, rfl⟩, ⟨_, rfl⟩⟩

theorem witness_UnassignedInstructionsRaiseUnknownOpcode : Instr.variant .unassigned_03 = none ∧
    Instr.secondByte .unassigned_03 = none ∧ Instr.variant .unassigned_ff = none ∧ Instr.secondByte .unassigned_ff = none ∧
    (code 0x0100 [0xFF]).status = .running ∧ [0xFF] <+: (code 0x0100 [0xFF]).bytesAtPC := by decide

theorem witness_PrefixRaisesUnknownOpcode : (code 0xFFFF [0xCB, 0xCB]).status = .running ∧
    [0xCB, 0xCB] <+: (code 0xFFFF [0xCB, 0xCB]).bytesAtPC := by decide

theorem witness_PairsAreViewsOfRegisters : Pair.bc ≠ .af ∧ Pair.hl ≠ .af := by decide

theorem witness_MemoryReadsWhatWasWritten : (0x0001 : Word) ≠ 0xFFFF ∧ (0x0001 : Word) ≠ 0xFFFF + 1 := by decide

theorem witness_EqualReadsMeanEqualMemories : Memory.wf [(0, 1), (65535, 2)] = true ∧
    ∀ a : Word, Memory.read [(0, 1), (65535, 2)] a.toNat = Memory.read [(0, 1), (65535, 2)] a.toNat :=
  ⟨by decide, fun _ => rfl⟩

/-- The boundary of the space: its last address, and the first beyond it. -/
theorem witness_OutOfRangeOnlyBeyondSixteenBits : busRead [(65535, 2)] 65535 = .ok 2 ∧
    busRead [] 65536 = .error (.outOfRange 65536) ∧ busWrite [] 65535 2 = .ok [(65535, 2)] ∧
    busWrite [] 65536 2 = .error (.outOfRange 65536) := ⟨rfl, rfl, rfl, rfl⟩

theorem witness_AddGivesSumAndCarries : Meets .add_a_a (.alu .add (.reg .a)) (code 0x0100 [0x87]) ∧
    Meets .add_a_mhl (.alu .add (.mem .hl)) (code 0x0100 [0x86]) ∧
    Meets (.add_a_d8 0xFF) (.alu .add (.d8 0xFF)) (code 0xFFFF [0xC6, 0xFF]) := by decide
theorem witness_AdcGivesSumWithCarryIn : Meets .adc_a_b (.alu .adc (.reg .b)) (withF (code 0x0100 [0x88]) 0x10) ∧
    Meets .adc_a_mhl (.alu .adc (.mem .hl)) (code 0x0100 [0x8E]) ∧
    Meets (.adc_a_d8 0xFF) (.alu .adc (.d8 0xFF)) (code 0xFFFF [0xCE, 0xFF]) := by decide
theorem witness_SubGivesDifferenceAndBorrows : Meets .sub_b (.alu .sub (.reg .b)) (code 0x0100 [0x90]) ∧
    Meets .sub_mhl (.alu .sub (.mem .hl)) (code 0x0100 [0x96]) ∧
    Meets (.sub_d8 0xFF) (.alu .sub (.d8 0xFF)) (code 0xFFFF [0xD6, 0xFF]) := by decide
theorem witness_SbcGivesDifferenceWithBorrowIn : Meets .sbc_a_b (.alu .sbc (.reg .b)) (withF (code 0x0100 [0x98]) 0x10) ∧
    Meets .sbc_a_mhl (.alu .sbc (.mem .hl)) (code 0x0100 [0x9E]) ∧
    Meets (.sbc_a_d8 0xFF) (.alu .sbc (.d8 0xFF)) (code 0xFFFF [0xDE, 0xFF]) := by decide
theorem witness_AndSetsHalfCarry : Meets .and_b (.alu .and (.reg .b)) (code 0x0100 [0xA0]) ∧
    Meets .and_mhl (.alu .and (.mem .hl)) (code 0x0100 [0xA6]) ∧
    Meets (.and_d8 0xFF) (.alu .and (.d8 0xFF)) (code 0xFFFF [0xE6, 0xFF]) := by decide
theorem witness_XorClearsTheOtherFlags : Meets .xor_a (.alu .xor (.reg .a)) (code 0x0100 [0xAF]) ∧
    Meets .xor_mhl (.alu .xor (.mem .hl)) (code 0x0100 [0xAE]) ∧
    Meets (.xor_d8 0xFF) (.alu .xor (.d8 0xFF)) (code 0xFFFF [0xEE, 0xFF]) := by decide
theorem witness_OrClearsTheOtherFlags : Meets .or_l (.alu .or (.reg .l)) (code 0x0100 [0xB5]) ∧
    Meets .or_mhl (.alu .or (.mem .hl)) (code 0x0100 [0xB6]) ∧
    Meets (.or_d8 0xFF) (.alu .or (.d8 0xFF)) (code 0xFFFF [0xF6, 0xFF]) := by decide
theorem witness_CpComparesAndKeepsA : Meets .cp_h (.alu .cp (.reg .h)) (code 0x0100 [0xBC]) ∧
    Meets .cp_mhl (.alu .cp (.mem .hl)) (code 0x0100 [0xBE]) ∧
    Meets (.cp_d8 0xFF) (.alu .cp (.d8 0xFF)) (code 0xFFFF [0xFE, 0xFF]) := by decide
theorem witness_NopOnlyAdvancesPC : Meets .nop .nop (code 0xFFFF [0x00]) := by decide

theorem witness_AddHLCarriesOutOfBits11And15 : Meets .add_hl_bc (.addHL .bc) (code 0x0100 [0x09]) ∧
    Meets .add_hl_de (.addHL .de) (code 0x0100 [0x19]) ∧ Meets .add_hl_hl (.addHL .hl) (code 0x0100 [0x29]) ∧
    Meets .add_hl_sp (.addHL .sp) (code 0x0100 [0x39]) := by decide
theorem witness_SPPlusSignedOffset : Meets (.add_sp_e8 0x80) (.addSP 0x80) (code 0xFFFF [0xE8, 0x80]) ∧
    Meets (.ld_hl_sp_e8 0x7F) (.loadHLSP 0x7F) (code 0xFFFF [0xF8, 0x7F]) := by decide

/-- One conditional form taken and not taken, and the unconditional form. -/
theorem witness_JumpTakesItsBranchOnTheCondition : Meets (.jp_z_a16 0x3000) (.jp .z 0x3000) (code 0xFFFE [0xCA, 0x00, 0x30]) ∧
    Meets (.jp_a16 0xFFFF) (.jp .always 0xFFFF) (code 0x0100 [0xC3, 0xFF, 0xFF]) ∧
    conditionHolds .z (withF State.reset 0x80).f = true ∧ conditionHolds .z State.reset.f = false := by decide
theorem witness_CallPushesReturnAddressWhenTaken :
    Meets (.call_nc_a16 0x3000) (.call .nc 0x3000) (code 0xFFFE [0xD4, 0x00, 0x30]) ∧
    Meets (.call_a16 0x3000) (.call .always 0x3000) (code 0x0100 [0xCD, 0x00, 0x30]) ∧
    conditionHolds .nc State.reset.f = true ∧ conditionHolds .nc (withF State.reset 0x10).f = false := by decide
theorem witness_ReturnPopsPCWhenTaken : Meets .ret_nz (.ret .nz) (code 0xFFFF [0xC0]) ∧
    Meets .ret (.ret .always) (code 0x0100 [0xC9]) ∧ conditionHolds .nz State.reset.f = true ∧
    conditionHolds .nz (withF State.reset 0x80).f = false := by decide

/-- The CALL of program P2, and the RET run right after it: the stack slot wraps at the top of memory. -/
theorem witness_ReturnUndoesCall : ∃ t v, Instr.variant (.call_a16 0x0110) = some (.call .always 0x0110) ∧
    exec (.call_a16 0x0110) { State.reset with pc := 0x0106, sp := 0x0001 } = .next t ∧
    Instr.variant .ret_nc = some (.ret .nc) ∧ conditionHolds .nc t.f = true ∧ exec .ret_nc t = .next v :=
  ⟨_, _, rfl, rfl, rfl, rfl, rfl⟩

theorem witness_LoadRegisterFromRegister : Meets .ld_b_b (.load8 (.reg .b) (.reg .b)) (code 0x0100 [0x40]) ∧
    Meets .ld_a_l (.load8 (.reg .a) (.reg .l)) (code 0x0100 [0x7D]) := by decide
theorem witness_LoadAndStoreThroughHL : Meets .ld_h_mhl (.load8 (.reg .h) (.mem .hl)) (code 0x0100 [0x66]) ∧
    Meets .ld_mhl_l (.load8 (.mem .hl) (.reg .l)) (code 0x0100 [0x75]) := by decide
theorem witness_LoadImmediateByte : Meets (.ld_a_d8 0xFF) (.load8 (.reg .a) (.d8 0xFF)) (code 0xFFFF [0x3E, 0xFF]) ∧
    Meets (.ld_mhl_d8 0x99) (.load8 (.mem .hl) (.d8 0x99)) (code 0x0100 [0x36, 0x99]) := by decide
theorem witness_LoadAndStoreThroughBCAndDE : Meets .ld_mbc_a (.load8 (.mem .bc) (.reg .a)) (code 0x0100 [0x02]) ∧
    Meets .ld_mde_a (.load8 (.mem .de) (.reg .a)) (code 0x0100 [0x12]) ∧
    Meets .ld_a_mbc (.load8 (.reg .a) (.mem .bc)) (code 0x0100 [0x0A]) ∧
    Meets .ld_a_mde (.load8 (.reg .a) (.mem .de)) (code 0x0100 [0x1A]) := by decide
theorem witness_PostIncrementAndDecrementOfHL : Meets .ld_mhli_a (.load8 (.mem .hlInc) (.reg .a)) (code 0x0100 [0x22]) ∧
    Meets .ld_mhld_a (.load8 (.mem .hlDec) (.reg .a)) (code 0x0100 [0x32]) ∧
    Meets .ld_a_mhli (.load8 (.reg .a) (.mem .hlInc)) (code 0x0100 [0x2A]) ∧
    Meets .ld_a_mhld (.load8 (.reg .a) (.mem .hlDec)) (code 0x0100 [0x3A]) := by decide
theorem witness_LoadAndStoreAtDirectAddress :
    Meets (.ld_ma16_a 0xFFFF) (.load8 (.mem (.direct 0xFFFF)) (.reg .a)) (code 0x0100 [0xEA, 0xFF, 0xFF]) ∧
    Meets (.ld_a_ma16 0xC002) (.load8 (.reg .a) (.mem (.direct 0xC002))) (code 0xFFFE [0xFA, 0x02, 0xC0]) := by decide
theorem witness_HighPageLoadsAndStores :
    Meets (.ldh_ma8_a 0xFF) (.load8 (.mem (.high 0xFF)) (.reg .a)) (code 0xFFFF [0xE0, 0xFF]) ∧
    Meets (.ldh_a_ma8 0x00) (.load8 (.reg .a) (.mem (.high 0x00))) (code 0x0100 [0xF0, 0x00]) ∧
    Meets .ld_mc_a (.load8 (.mem .highC) (.reg .a)) (code 0x0100 [0xE2]) ∧
    Meets .ld_a_mc (.load8 (.reg .a) (.mem .highC)) (code 0x0100 [0xF2]) := by decide

theorem witness_LoadImmediateWord : Meets (.ld_bc_d16 0x1234) (.loadPair .bc 0x1234) (code 0x0100 [0x01, 0x34, 0x12]) ∧
    Meets (.ld_de_d16 0xABCD) (.loadPair .de 0xABCD) (code 0x0100 [0x11, 0xCD, 0xAB]) ∧
    Meets (.ld_hl_d16 0xC000) (.loadPair .hl 0xC000) (code 0x0100 [0x21, 0x00, 0xC0]) ∧
    Meets (.ld_sp_d16 0xFFFE) (.loadPair .sp 0xFFFE) (code 0xFFFE [0x31, 0xFE, 0xFF]) := by decide
theorem witness_StoreAndLoadSP : Meets (.ld_ma16_sp 0xFFFF) (.storeSP 0xFFFF) (code 0x0100 [0x08, 0xFF, 0xFF]) ∧
    Meets .ld_sp_hl .loadSPHL (code 0x0100 [0xF9]) := by decide
theorem witness_PushWritesPairBelowSP : Meets .push_bc (.push .bc) (code 0x0100 [0xC5]) ∧
    Meets .push_af (.push .af) (code 0x0100 [0xF5]) := by decide
theorem witness_PopReadsPairAtSP : Meets .pop_bc (.pop .bc) (code 0x0100 [0xC1]) ∧
    Meets .pop_de (.pop .de) (code 0x0100 [0xD1]) ∧ Meets .pop_hl (.pop .hl) (code 0x0100 [0xE1]) ∧
    Meets .pop_af (.pop .af) (code 0x0100 [0xF1]) := by decide
theorem witness_PopUndoesPush : ∃ t u, Instr.variant .push_af = some (.push .af) ∧ Instr.variant .pop_af = some (.pop .af) ∧
    exec .push_af { State.reset with a := 0x12, sp := 0x0001 } = .next t ∧ exec .pop_af t = .next u :=
  ⟨_, _, rfl, rfl, rfl, rfl⟩

/-- Clause by clause: an instruction that does not write B; one that does not write SP, a CALL that is not taken. -/
theorem witness_OnlyTheListedInstructionsWriteARegister :
    (∃ t, exec .pop_hl State.reset = .next t) ∧ (∀ v, Instr.variant .pop_hl = some v → writesRegister .b v = false) ∧
    (∃ t, exec (.call_c_a16 0x3000) State.reset = .next t) ∧
    (∀ v, Instr.variant (.call_c_a16 0x3000) = some v → writesSP State.reset v = false) :=
  ⟨⟨_, rfl⟩, fun v h => by cases h; rfl, ⟨_, rfl⟩, fun v h => by cases h; rfl⟩

/-- Clause by clause: POP BC writes no flag; ADD HL,SP. -/
theorem witness_OnlyTheListedInstructionsWriteFlags :
    (∃ t, exec .pop_bc State.reset = .next t) ∧ (∀ v, Instr.variant .pop_bc = some v → writesFlags v = false) ∧
    (∃ t, exec .add_hl_sp State.reset = .next t) ∧ Instr.variant .add_hl_sp = some (.addHL .sp) :=
  ⟨⟨_, rfl⟩, fun v h => by cases h; rfl, ⟨_, rfl⟩, rfl⟩

/-- Clause by clause, each with an address beside the stored bytes. -/
theorem witness_BytesOutsideTheStoreAreUnchanged :
    ((∃ t, exec .ld_mhli_a State.reset = .next t) ∧
      Instr.variant .ld_mhli_a = some (.load8 (.mem .hlInc) (.reg .a)) ∧ (0x0001 : Word) ≠ State.reset.addrOf .hlInc) ∧
    ((∃ t, exec (.ld_ma16_sp 0xFFFF) State.reset = .next t) ∧
      Instr.variant (.ld_ma16_sp 0xFFFF) = some (.storeSP 0xFFFF) ∧ (0x0001 : Word) ≠ 0xFFFF ∧
      (0x0001 : Word) ≠ 0xFFFF + 1) ∧
    ((∃ t, exec .push_bc State.reset = .next t) ∧ Instr.variant .push_bc = some (.push .bc) ∧
      (0x0000 : Word) ≠ State.reset.sp - 1 ∧ (0x0000 : Word) ≠ State.reset.sp - 2) ∧
    ((∃ t, exec (.call_nc_a16 0x3000) State.reset = .next t) ∧
      Instr.variant (.call_nc_a16 0x3000) = some (.call .nc 0x3000) ∧ conditionHolds .nc State.reset.f = true ∧
      (0xFFFD : Word) ≠ State.reset.sp - 1 ∧ (0xFFFD : Word) ≠ State.reset.sp - 2) ∧
    ((∃ t, exec (.call_c_a16 0x3000) State.reset = .next t) ∧
      Instr.variant (.call_c_a16 0x3000) = some (.call .c 0x3000) ∧ conditionHolds .c State.reset.f = false) ∧
    ((∃ t, exec .cp_mhl State.reset = .next t) ∧ (∀ v, Instr.variant .cp_mhl = some v → stores v = false)) := by
  refine ⟨⟨⟨_, rfl⟩, rfl, ?_⟩, ⟨⟨_, rfl⟩, rfl, ?_, ?_⟩, ⟨⟨_, rfl⟩, rfl, ?_, ?_⟩, ⟨⟨_, rfl⟩, rfl, rfl, ?_, ?_⟩,
    ⟨⟨_, rfl⟩, rfl, rfl⟩, ⟨_, rfl⟩, fun v h => by cases h; rfl⟩ <;> decide

theorem witness_BusWritesGiveTheMemory : (∃ t, step (code 0x0100 [0xC1]) = .next t) ∧
    Access.read 0x0000 0x00 ∈ (code 0x0100 [0xC1]).busAccesses := ⟨⟨_, rfl⟩, by decide⟩

theorem witness_NotTakenBranchReadsOnlyItsOpcode :
    Meets (.jp_c_a16 0x3000) (.jp .c 0x3000) (code 0xFFFE [0xDA, 0x00, 0x30]) ∧
    Meets (.call_c_a16 0x3000) (.call .c 0x3000) (code 0xFFFE [0xDC, 0x00, 0x30]) ∧
    conditionHolds .c (code 0xFFFE [0xDA, 0x00, 0x30]).f = false ∧
    Meets (.jp_a16 0x3000) (.jp .always 0x3000) (code 0xFFFE [0xC3, 0x00, 0x30]) ∧
    conditionHolds .always State.reset.f = true := by decide

theorem witness_NoInstructionReadsAndWritesData : Instr.variant .pop_bc = some (.pop .bc) ∧
    Instr.variant (.ld_ma16_sp 0xFFFF) = some (.storeSP 0xFFFF) := by decide

end Sys2Proof.Tests
end

/-! Proofs for the family of the architectural state (10_state.md): canonical memories, the packed flags and AF, where each
instruction leaves PC, and what each leaves unchanged. -/

namespace Sys2Proof.Machine

open Sys2Proof.Statements

/-! ### Canonical memories are determined by what they read (R22) -/

namespace Memory

/-- The head cell of a canonical memory is seen by a read, so a memory whose cells all lie above it reads differently. -/
theorem exists_read_ne_of_all_above {k : Nat} {v : Byte} {m m' : Memory} (h : wf ((k, v) :: m) = true)
    (ha : m'.all (fun cell => decide (k < cell.1)) = true) :
    ∃ j < Config.memSize, read ((k, v) :: m) j ≠ read m' j := by
  obtain ⟨hk, hv, -, -⟩ := wf_cons.mp h
  exact ⟨k, hk, by rw [read_of_all_ne ha]; simpa [read] using hv⟩

/-- Every cell of a canonical memory lies above an address smaller than its head's. -/
theorem all_above_of_lt_head {k k' : Nat} {v' : Byte} {m' : Memory} (h : wf ((k', v') :: m') = true) (hlt : k < k') :
    List.all ((k', v') :: m') (fun cell => decide (k < cell.1)) = true := by
  obtain ⟨-, -, hall, -⟩ := wf_cons.mp h
  simp only [List.all_cons, List.all_eq_true, Bool.and_eq_true, decide_eq_true_eq] at hall ⊢
  exact ⟨hlt, fun cell hc => hlt.trans (hall cell hc)⟩

/-- Canonical memories whose heads list the same address: where they read alike, so do their tails. -/
theorem read_tail_eq {k : Nat} {v v' : Byte} {m m' : Memory} (h : wf ((k, v) :: m) = true)
    (h' : wf ((k, v') :: m') = true) {j : Nat} (heq : read ((k, v) :: m) j = read ((k, v') :: m') j) :
    m.read j = m'.read j := by
  obtain ⟨-, -, hall, -⟩ := wf_cons.mp h
  obtain ⟨-, -, hall', -⟩ := wf_cons.mp h'
  by_cases hj : k = j
  · subst hj; rw [read_of_all_ne hall, read_of_all_ne hall']
  · simpa [read, hj] using heq

theorem eq_of_read_eq {m m' : Memory} (h : m.wf = true) (h' : m'.wf = true)
    (heq : ∀ j < Config.memSize, m.read j = m'.read j) : m = m' := by
  induction m generalizing m' with
  | nil =>
    cases m' with
    | nil => rfl
    | cons cell' m' =>
      obtain ⟨j, hj, hne⟩ := exists_read_ne_of_all_above h' (m' := []) rfl
      exact absurd (heq j hj).symm hne
  | cons cell m ih =>
    obtain ⟨k, v⟩ := cell
    cases m' with
    | nil =>
      obtain ⟨j, hj, hne⟩ := exists_read_ne_of_all_above h (m' := []) rfl
      exact absurd (heq j hj) hne
    | cons cell' m' =>
      obtain ⟨k', v'⟩ := cell'
      have hk : k = k' := by
        rcases Nat.lt_trichotomy k k' with hlt | hkk | hgt
        · obtain ⟨j, hj, hne⟩ := exists_read_ne_of_all_above h (all_above_of_lt_head h' hlt)
          exact absurd (heq j hj) hne
        · exact hkk
        · obtain ⟨j, hj, hne⟩ := exists_read_ne_of_all_above h' (all_above_of_lt_head h hgt)
          exact absurd (heq j hj).symm hne
      subst hk
      obtain ⟨hkm, -, -, hw⟩ := wf_cons.mp h
      obtain ⟨-, -, -, hw'⟩ := wf_cons.mp h'
      have hv : v = v' := by simpa [read] using heq k hkm
      rw [hv, ih hw hw' fun j hj => read_tail_eq h h' (heq j hj)]

end Memory

/-! ### The packed flags byte (R12) and the pair AF (R14) -/

namespace Flags

@[simp] theorem unpack_pack (f : Flags) : unpack f.pack = f := by
  obtain ⟨z, n, h, c⟩ := f
  revert z n h c; decide

theorem pack_lowNibble (f : Flags) : f.pack &&& 0x0F = 0 := by
  obtain ⟨z, n, h, c⟩ := f
  revert z n h c; decide

/-- The bits of the packed byte, from bit 0 up (R12). -/
theorem getLsbD_pack (f : Flags) :
    ∀ i < 8, f.pack.getLsbD i = [false, false, false, false, f.c, f.h, f.n, f.z].getD i false := by
  obtain ⟨z, n, h, c⟩ := f
  revert z n h c; decide

/-- Packing what was unpacked keeps bits 7 to 4 and clears the others. -/
theorem pack_unpack (v : Byte) : (unpack v).pack = v &&& 0xF0 := by
  apply BitVec.eq_of_getLsbD_eq
  intro i hi
  rw [getLsbD_pack _ i hi]
  interval_cases i <;> simp [unpack]

/-- The flags in the low byte of a word, read from the word (R12, R14). -/
theorem unpack_loByte (v : Word) :
    unpack (loByte v) = ⟨v.getLsbD 7, v.getLsbD 6, v.getLsbD 5, v.getLsbD 4⟩ := by
  simp [unpack, loByte]

end Flags

theorem mkWord_and (h l h' l' : Byte) : mkWord h l &&& mkWord h' l' = mkWord (h &&& h') (l &&& l') :=
  BitVec.and_append

namespace State

theorem setPair_bc (s : State) (v : Word) : s.setPair .bc v = (s.setReg .b (hiByte v)).setReg .c (loByte v) := rfl

theorem setPair_de (s : State) (v : Word) : s.setPair .de v = (s.setReg .d (hiByte v)).setReg .e (loByte v) := rfl

theorem setPair_hl (s : State) (v : Word) : s.setPair .hl v = (s.setReg .h (hiByte v)).setReg .l (loByte v) := rfl

theorem setPair_af (s : State) (v : Word) :
    s.setPair .af v = { s.setReg .a (hiByte v) with f := Flags.unpack (loByte v) } := rfl

/-- AF reads back without the low nibble written to it (R14, R24). -/
theorem pair_setPair_af (s : State) (v : Word) : (s.setPair .af v).pair .af = v &&& 0xFFF0 :=
  calc (s.setPair .af v).pair .af
    _ = mkWord (hiByte v) (Flags.unpack (loByte v)).pack := rfl
    _ = mkWord (hiByte v &&& 0xFF) (loByte v &&& 0xF0) := by
      rw [Flags.pack_unpack, show (0xFF : Byte) = BitVec.allOnes 8 from rfl, BitVec.and_allOnes]
    _ = mkWord (hiByte v) (loByte v) &&& mkWord 0xFF 0xF0 := (mkWord_and ..).symm
    _ = v &&& 0xFFF0 := by rw [mkWord_hi_lo]; rfl

end State

/-! ### What `exec` can do, and the operand forms it is given -/

/-- Every assigned instruction has operands that have an encoding (R80, R125, R161 to R179). -/
theorem wf_of_variant {i : Instr} {v : Variant} (h : i.variant = some v) : v.wf = true := by
  cases i <;> simp only [Instr.variant, Option.some.injEq, reduceCtorEq] at h <;> subst h <;> rfl

/-- An instruction that answers `t` either runs its variant, whose operands have an encoding, or raises. -/
theorem exec_cases {i : Instr} {s t : State} (h : exec i s = .next t) :
    (∃ v, i.variant = some v ∧ v.wf = true ∧ t = s.run v) ∨
      (i.variant = none ∧ t = s.raise (reportOf i)) := by
  cases hv : i.variant with
  | none =>
    rw [exec_of_no_variant hv, Host.Outcome.next.injEq] at h
    exact .inr ⟨rfl, h.symm⟩
  | some v =>
    rw [exec_of_variant hv, Host.Outcome.next.injEq] at h
    exact .inl ⟨v, rfl, wf_of_variant hv, h.symm⟩

/-- The table of conditions in the statements is the machine's (R150). -/
@[simp] theorem holds_eq_conditionHolds (cc : Cond) (f : Flags) : cc.holds f = conditionHolds cc f := by
  cases cc <;> simp [Cond.holds, conditionHolds]

/-- A memory operand is as long as its opcode byte and its immediates (R72). -/
theorem memOp_width (m : MemOp) : m.width = 1 + m.immediates.length := by
  cases m <;> rfl

theorem src_width (src : Src) : src.width = 1 + src.immediates.length := by
  cases src with
  | mem m => exact memOp_width m
  | _ => rfl

theorem dst_width (dst : Dst) : dst.width = 1 + dst.immediates.length := by
  cases dst with
  | mem m => exact memOp_width m
  | reg r => rfl

/-- At most one operand of a byte load has immediates, so the longer operand gives the length (R160). -/
theorem load8_width {dst : Dst} {src : Src} (h : loadForm dst src = true) :
    max dst.width src.width = 1 + (dst.immediates ++ src.immediates).length := by
  have hone : dst.immediates = [] ∨ src.immediates = [] := by
    cases dst with
    | reg r => exact .inl rfl
    | mem m =>
      cases src with
      | reg r => exact .inr rfl
      | mem m' => cases m <;> simp [loadForm] at h
      | d8 v =>
        cases m <;> simp [loadForm] at h
        exact .inl rfl
  rw [src_width, dst_width, List.length_append]
  rcases hone with h0 | h0 <;> simp [h0]

/-! ### Where the shared operations leave PC (R17) -/

namespace State

@[simp] theorem pc_alu (s : State) (op : AluOp) (v : Byte) : (s.alu op v).pc = s.pc := by
  rw [alu_frame]

theorem pc_runJp (s : State) (cc : Cond) (a : Word) :
    (s.runJp cc a).pc = if conditionHolds cc s.f then a else s.pc + 3 := by
  rw [runJp, holds_eq_conditionHolds]; split <;> rfl

theorem pc_runCall (s : State) (cc : Cond) (a : Word) :
    (s.runCall cc a).pc = if conditionHolds cc s.f then a else s.pc + 3 := by
  rw [runCall, holds_eq_conditionHolds]; split <;> rfl

theorem pc_runRet (s : State) (cc : Cond) :
    (s.runRet cc).pc = if conditionHolds cc s.f then stackTop s else s.pc + 1 := by
  rw [runRet, holds_eq_conditionHolds, pop16_eq]; split <;> rfl

theorem pc_runAlu (s : State) (op : AluOp) (src : Src) :
    (s.runAlu op src).pc = s.pc + BitVec.ofNat 16 (1 + src.immediates.length) := by
  rw [runAlu, advance_pc, pc_alu, src_width]

theorem pc_runLoad8 (s : State) {dst : Dst} {src : Src} (h : loadForm dst src = true) :
    (s.runLoad8 dst src).pc = s.pc + BitVec.ofNat 16 (1 + (dst.immediates ++ src.immediates).length) := by
  simp only [runLoad8, advance_pc, adjustHL_pc, writeDst_pc, load8_width h]

/-! ### What leaves a general register (R18) -/

/-- A register is read from the seven register fields only. -/
@[simp] theorem reg_update (s : State) (f : Flags) (sp pc : Word) (mem : Memory) (status : RunStatus) (r : Reg8) :
    { s with f, sp, pc, mem, status }.reg r = s.reg r := by
  cases r <;> rfl

@[simp] theorem reg_advance (s : State) (n : Nat) (r : Reg8) : (s.advance n).reg r = s.reg r :=
  reg_update ..

@[simp] theorem reg_writeByte (s : State) (addr : Word) (v : Byte) (r : Reg8) :
    (s.writeByte addr v).reg r = s.reg r := reg_update ..

@[simp] theorem reg_raise (s : State) (c : FatalCondition) (r : Reg8) : (s.raise c).reg r = s.reg r :=
  reg_update ..

theorem reg_setAF8_other (s : State) (out : AluOut) {r : Reg8} (h : r ≠ .a) : (s.setAF8 out).reg r = s.reg r := by
  cases r with
  | a => exact absurd rfl h
  | _ => rfl

theorem reg_alu_other (s : State) {op : AluOp} (v : Byte) {r : Reg8} (h : (r == .a && op != .cp) = false) :
    (s.alu op v).reg r = s.reg r := by
  cases op with
  | cp => exact reg_update ..
  | _ => exact reg_setAF8_other s _ (by simpa using h)

theorem reg_setReg_other (s : State) {q r : Reg8} (v : Byte) (h : r ≠ q) : (s.setReg q v).reg r = s.reg r := by
  rw [reg_setReg, if_neg h]

/-- Writing the registers of a pair leaves the others; the second half of AF is the flags (R14). -/
theorem reg_setPair_other (s : State) {p : Pair} (v : Word) {r : Reg8} (h : pairWrites r p = false) :
    (s.setPair p v).reg r = s.reg r := by
  cases p with
  | af =>
    have ha : r ≠ .a := by simpa [pairWrites] using h
    rw [setPair_af, reg_update, reg_setReg_other _ _ ha]
  | bc =>
    obtain ⟨hb, hc⟩ : r ≠ .b ∧ r ≠ .c := by simpa [pairWrites] using h
    rw [setPair_bc, reg_setReg_other _ _ hc, reg_setReg_other _ _ hb]
  | de =>
    obtain ⟨hd, he⟩ : r ≠ .d ∧ r ≠ .e := by simpa [pairWrites] using h
    rw [setPair_de, reg_setReg_other _ _ he, reg_setReg_other _ _ hd]
  | hl =>
    obtain ⟨hh, hl⟩ : r ≠ .h ∧ r ≠ .l := by simpa [pairWrites] using h
    rw [setPair_hl, reg_setReg_other _ _ hl, reg_setReg_other _ _ hh]

theorem reg_setRp_other (s : State) {rr : Rp} (v : Word) {r : Reg8} (h : rpWrites r rr = false) :
    (s.setRp rr v).reg r = s.reg r := by
  cases rr with
  | sp => exact reg_update ..
  | bc => exact reg_setPair_other s (p := .bc) v h
  | de => exact reg_setPair_other s (p := .de) v h
  | hl => exact reg_setPair_other s (p := .hl) v h

theorem reg_adjustHL_other (s : State) {o : Option MemOp} {r : Reg8} (h : ∀ m, o = some m → memWrites r m = false) :
    (s.adjustHL o).reg r = s.reg r := by
  unfold adjustHL
  split
  · exact reg_setPair_other s (p := .hl) _ (h _ rfl)
  · exact reg_setPair_other s (p := .hl) _ (h _ rfl)
  · rfl

theorem reg_writeDst_other (s : State) {dst : Dst} (v : Byte) {r : Reg8} (h : dstWrites r dst = false) :
    (s.writeDst dst v).reg r = s.reg r := by
  cases dst with
  | reg q =>
    have hne : r ≠ q := by simpa [dstWrites] using h
    simp [writeDst, reg_setReg, hne]
  | mem m => simp [writeDst]

theorem reg_runLoad8_other (s : State) {dst : Dst} {src : Src} {r : Reg8} (hd : dstWrites r dst = false)
    (hs : srcWrites r src = false) : (s.runLoad8 dst src).reg r = s.reg r := by
  have hdst : ∀ m, dst.memOp = some m → memWrites r m = false := by
    intro m hm; cases dst <;> cases hm; exact hd
  have hsrc : ∀ m, src.memOp = some m → memWrites r m = false := by
    intro m hm; cases src <;> cases hm; exact hs
  simp only [runLoad8, reg_advance, reg_adjustHL_other _ hsrc, reg_adjustHL_other _ hdst, reg_writeDst_other _ _ hd]

/-- A variant leaves every general register that R18 does not list for it. -/
theorem reg_run_other (s : State) {v : Variant} {r : Reg8} (h : writesRegister r v = false) :
    (s.run v).reg r = s.reg r := by
  cases v with
  | alu op src => exact (reg_advance ..).trans (reg_alu_other s _ h)
  | load8 dst src =>
    obtain ⟨hd, hs⟩ := Bool.or_eq_false_iff.mp h
    exact reg_runLoad8_other s hd hs
  | addHL rr => exact (reg_update ..).trans (reg_setPair_other s (p := .hl) _ h)
  | loadHLSP e => exact (reg_update ..).trans (reg_setPair_other s (p := .hl) _ h)
  | loadPair rr w => exact (reg_advance ..).trans (reg_setRp_other s w h)
  | push p => simp [run, runPush, push16_eq]
  | pop p => simp [run, runPop, pop16_eq, reg_setPair_other _ _ h]
  | jp cc a => simp only [run, runJp]; split <;> simp
  | call cc a => simp only [run, runCall, push16_eq]; split <;> simp
  | ret cc => simp only [run, runRet, pop16_eq]; split <;> simp
  | nop => exact reg_advance ..
  | addSP e => exact reg_update ..
  | storeSP a => exact reg_update ..
  | loadSPHL => exact reg_update ..

/-! ### What leaves SP and the flags (R18, R19) -/

theorem setRp_sp_other (s : State) {rr : Rp} (v : Word) (h : (rr == .sp) = false) : (s.setRp rr v).sp = s.sp := by
  cases rr with
  | sp => cases h
  | _ => rfl

theorem runCall_not_taken (s : State) {cc : Cond} (a : Word) (h : conditionHolds cc s.f = false) :
    s.runCall cc a = s.advance 3 := by
  simp [runCall, h]

theorem runRet_not_taken (s : State) {cc : Cond} (h : conditionHolds cc s.f = false) :
    s.runRet cc = s.advance 1 := by
  simp [runRet, h]

/-- A variant leaves SP unless R18 lists it; a CALL or RET that is not taken leaves it. -/
theorem sp_run_other (s : State) {v : Variant} (h : writesSP s v = false) : (s.run v).sp = s.sp := by
  cases v with
  | alu op src => rw [run, runAlu, advance_sp, alu_frame]
  | addHL rr => rfl
  | load8 dst src => simp [run, runLoad8]
  | loadPair rr w => exact setRp_sp_other s w h
  | jp cc a => rw [run, runJp]; split <;> rfl
  | call cc a => rw [run, runCall_not_taken s a h, advance_sp]
  | ret cc => rw [run, runRet_not_taken s h, advance_sp]
  | nop => rfl
  | storeSP a => rfl
  | loadHLSP e => rfl
  | addSP e => cases h
  | loadSPHL => cases h
  | push p => cases h
  | pop p => cases h

theorem setPair_f_other (s : State) {p : Pair} (v : Word) (h : (p == .af) = false) : (s.setPair p v).f = s.f := by
  cases p with
  | af => cases h
  | _ => rfl

/-- A variant leaves all four flags unless R19 or R27 gives it a flag effect. -/
theorem f_run_other (s : State) {v : Variant} (h : writesFlags v = false) : (s.run v).f = s.f := by
  cases v with
  | load8 dst src => simp [run, runLoad8]
  | loadPair rr w => exact setRp_f s rr w
  | pop p => rw [run, runPop, advance_f, setPair_f_other _ _ h, pop16_eq]
  | push p => rw [run, runPush, advance_f, push16_eq]
  | jp cc a => rw [run, runJp]; split <;> rfl
  | call cc a => rw [run, runCall, push16_eq]; split <;> rfl
  | ret cc => rw [run, runRet, pop16_eq]; split <;> rfl
  | nop => rfl
  | storeSP a => rfl
  | loadSPHL => rfl
  | alu op src => cases h
  | addHL rr => cases h
  | addSP e => cases h
  | loadHLSP e => cases h

end State

/-! ### The obligations -/

/-- Settles O16: an unassigned instruction raises; any other runs its variant, whose length is that of its operands. -/
theorem nextPCOfEveryInstruction : Obligations.NextPCOfEveryInstruction := by
  intro i s t h
  obtain ⟨v, hv, hwf, rfl⟩ | ⟨hv, rfl⟩ := exec_cases h
  · rw [hv]
    cases v with
    | jp cc a => exact State.pc_runJp s cc a
    | call cc a => exact State.pc_runCall s cc a
    | ret cc => exact State.pc_runRet s cc
    | alu op src => exact State.pc_runAlu s op src
    | load8 dst src => exact State.pc_runLoad8 s hwf
    | addHL rr => rfl
    | loadPair rr w => exact congrArg (· + 3) (State.setRp_pc s rr w)
    | pop p => exact congrArg (· + 1) (State.setPair_pc s.pop16.2 p _)
    | nop => rfl
    | addSP e => rfl
    | storeSP a => rfl
    | loadSPHL => rfl
    | loadHLSP e => rfl
    | push p => rfl
  · rw [hv]; rfl

/-- Settles O22, by induction on the two lists of cells: their heads are the least addresses that read otherwise than an
unlisted one. -/
theorem equalReadsMeanEqualMemories : Obligations.EqualReadsMeanEqualMemories := by
  intro m m' h h' heq
  refine Memory.eq_of_read_eq h h' fun j hj => ?_
  have hword : (BitVec.ofNat 16 j).toNat = j := Nat.mod_eq_of_lt hj
  have hj := heq (BitVec.ofNat 16 j)
  rwa [hword] at hj

/-- Settles O55, from the frame of each variant. -/
theorem onlyTheListedInstructionsWriteARegister : Obligations.OnlyTheListedInstructionsWriteARegister := by
  intro i s t h
  obtain ⟨v, hv, -, rfl⟩ | ⟨-, rfl⟩ := exec_cases h
  · exact ⟨fun r hr => State.reg_run_other s (hr v hv), fun hsp => State.sp_run_other s (hsp v hv)⟩
  · exact ⟨fun r _ => State.reg_raise s _ r, fun _ => rfl⟩

/-- Settles O56, from the frame of each variant. -/
theorem onlyTheListedInstructionsWriteFlags : Obligations.OnlyTheListedInstructionsWriteFlags := by
  intro i s t h
  obtain ⟨v, hv, -, rfl⟩ | ⟨hv, rfl⟩ := exec_cases h
  · refine ⟨fun hf => State.f_run_other s (hf v hv), fun rr hrr => ?_, fun _ _ => status_run s v⟩
    obtain rfl : v = .addHL rr := Option.some.inj (hv.symm.trans hrr)
    rfl
  · rw [hv]
    exact ⟨fun _ => rfl, nofun, nofun⟩

/-- Settles O14: the reset memory lists nothing, and a Running machine has no report. -/
theorem resetMeetsInvariant : Obligations.ResetMeetsInvariant := ⟨wf_reset, trivial⟩

/-- Settles O19: a pair is written as its two halves, and AF keeps bits 7 to 4 of its low byte. -/
theorem pairsAreViewsOfRegisters : Obligations.PairsAreViewsOfRegisters := by
  intro s v
  refine ⟨⟨rfl, rfl, rfl, rfl⟩, s.setPair_bc v, s.setPair_de v, s.setPair_hl v, ?_,
    fun p hp => s.pair_setPair_same hp v, s.pair_setPair_af v, s.f.pack_lowNibble⟩
  rw [State.setPair_af, Flags.unpack_loByte]

/-- Settles O20, from the bits of a packed byte. -/
theorem flagsByteLayout : Obligations.FlagsByteLayout := by
  refine ⟨fun f => ?_, Flags.pack_unpack⟩
  have hbit := f.getLsbD_pack
  exact ⟨hbit 7 (by decide), hbit 6 (by decide), hbit 5 (by decide), hbit 4 (by decide), f.pack_lowNibble,
    f.unpack_pack⟩

/-- Settles O24: each register is a default, and every address is unlisted. -/
theorem resetStateIsTheDefault : Obligations.ResetStateIsTheDefault :=
  ⟨rfl, fun r => by cases r <;> rfl, rfl, rfl, rfl, fun _ => rfl⟩

end Sys2Proof.Machine

/-! Proofs for the family of memory (20_memory.md): what is read after a byte or word write, the bytes a step leaves, and the
bus view of a step. -/

namespace Sys2Proof.Machine

open Sys2Proof.Statements

/-! ### What a step can do -/

/-- A step that answers a next state executes the fetched instruction of a Running machine (R71, R243). -/
theorem step_eq_next {s t : State} (h : step s = .next t) : s.status = .running ∧ exec s.fetch s = .next t := by
  cases hs : s.status with
  | running => exact ⟨rfl, by simpa only [step, hs] using h⟩
  | faulted r => rw [step_of_faulted hs] at h; cases h

/-- The report of an instruction without a variant is UnknownOpcode, never OutOfRange (R52, R240). -/
theorem reportOf_eq_unknownOpcode (i : Instr) : ∃ op prefixed, reportOf i = .unknownOpcode op prefixed := by
  unfold reportOf
  split
  · exact ⟨_, true, rfl⟩
  · exact ⟨_, false, rfl⟩

/-- The opcode byte of the fetched instruction is the byte at PC (R71). -/
theorem opcode_fetch (s : State) : s.fetch.opcode = s.readByte s.pc :=
  opcode_decodeAt ..

/-! ### Memory after accesses are replayed (R42, R43, R48) -/

namespace Memory

/-- Accesses that do not write an address leave its byte. -/
theorem read_replay_other (m : Memory) {l : List Access} {b : Word} (h : ∀ a w, Access.write a w ∈ l → b ≠ a) :
    (m.replay l).read b.toNat = m.read b.toNat := by
  induction l generalizing m with
  | nil => rfl
  | cons x l ih =>
    have hl : ∀ a w, Access.write a w ∈ l → b ≠ a := fun a w hm => h a w (List.mem_cons_of_mem x hm)
    cases x with
    | read a w => exact ih m hl
    | write a w =>
      have hb : b.toNat ≠ a.toNat := fun e => h a w List.mem_cons_self (BitVec.eq_of_toNat_eq e)
      exact (ih _ hl).trans (read_write_other m w hb)

/-- Reads before other accesses do not change what these leave. -/
theorem replay_reads_append (m : Memory) {l : List Access} (l' : List Access) (h : l.all Access.isRead = true) :
    m.replay (l ++ l') = m.replay l' := by
  induction l with
  | nil => rfl
  | cons x l ih =>
    cases x with
    | read a w => exact ih h
    | write a w => cases h

end Memory

namespace State

/-! ### Lists of reads of a state -/

/-- The accesses read bytes of `s`: each is the read access of some address. -/
def ReadsOf (s : State) (l : List Access) : Prop := ∃ addrs : List Word, l = addrs.map s.readAccess

theorem ReadsOf.all_isRead {s : State} {l : List Access} (h : s.ReadsOf l) : l.all Access.isRead = true := by
  obtain ⟨addrs, rfl⟩ := h
  simp [readAccess, Access.isRead]

/-- Each read shows the byte that stands in the state. -/
theorem ReadsOf.eq_readByte {s : State} {l : List Access} {a : Word} {w : Byte} (h : s.ReadsOf l)
    (hm : Access.read a w ∈ l) : w = s.readByte a := by
  obtain ⟨addrs, rfl⟩ := h
  obtain ⟨b, -, hb⟩ := List.mem_map.mp hm
  cases hb; rfl

/-! ### The data accesses of a variant (R48) -/

theorem readsOf_srcAccesses (s : State) (src : Src) : s.ReadsOf (s.srcAccesses src) := by
  cases src with
  | reg r => exact ⟨[], rfl⟩
  | mem m => exact ⟨[s.addrOf m], rfl⟩
  | d8 w => exact ⟨[], rfl⟩

theorem readsOf_popAccesses (s : State) : s.ReadsOf s.popAccesses := ⟨[s.sp, s.sp + 1], rfl⟩

theorem length_srcAccesses_le (s : State) (src : Src) : (s.srcAccesses src).length ≤ 1 := by
  cases src <;> simp [srcAccesses]

theorem dataAccesses_load8_reg (s : State) (r : Reg8) (src : Src) :
    s.dataAccesses (.load8 (.reg r) src) = s.srcAccesses src :=
  List.append_nil _

/-- An encodable store through memory makes its one write: no load has two operands in memory (R91, R180). -/
theorem dataAccesses_load8_mem (s : State) {m : MemOp} {src : Src} (h : loadForm (.mem m) src = true) :
    s.dataAccesses (.load8 (.mem m) src) = [.write (s.addrOf m) (s.readSrc src)] := by
  cases src with
  | reg r => rfl
  | d8 w => rfl
  | mem m' => cases m <;> cases h

theorem dataAccesses_call_taken (s : State) {cc : Cond} (a : Word) (h : conditionHolds cc s.f = true) :
    s.dataAccesses (.call cc a) = s.pushAccesses (s.pc + 3) := by
  rw [dataAccesses, holds_eq_conditionHolds, if_pos h]

theorem dataAccesses_call_not_taken (s : State) {cc : Cond} (a : Word) (h : conditionHolds cc s.f = false) :
    s.dataAccesses (.call cc a) = [] := by
  simp [dataAccesses, h]

theorem dataAccesses_ret (s : State) (cc : Cond) :
    s.dataAccesses (.ret cc) = s.popAccesses ∨ s.dataAccesses (.ret cc) = [] := by
  rw [dataAccesses]; exact ite_eq_or_eq ..

/-- A variant that does not store makes reads only (R48). -/
theorem readsOf_dataAccesses (s : State) {v : Variant} (h : stores v = false) : s.ReadsOf (s.dataAccesses v) := by
  cases v with
  | alu op src => exact s.readsOf_srcAccesses src
  | load8 dst src =>
    cases dst with
    | reg r => rw [dataAccesses_load8_reg]; exact s.readsOf_srcAccesses src
    | mem m => cases h
  | pop p => exact s.readsOf_popAccesses
  | ret cc =>
    rcases s.dataAccesses_ret cc with hd | hd <;> rw [hd]
    · exact s.readsOf_popAccesses
    · exact ⟨[], rfl⟩
  | storeSP a => cases h
  | push p => cases h
  | call cc a => cases h
  | _ => exact ⟨[], rfl⟩

/-- An encodable variant that stores makes writes only (R48). -/
theorem all_isWrite_dataAccesses (s : State) {v : Variant} (hwf : v.wf = true) (h : stores v = true) :
    (s.dataAccesses v).all (fun x => !Access.isRead x) = true := by
  cases v with
  | load8 dst src =>
    cases dst with
    | reg r => cases h
    | mem m => rw [s.dataAccesses_load8_mem hwf]; rfl
  | storeSP a => rfl
  | push p => rfl
  | call cc a =>
    cases hc : conditionHolds cc s.f with
    | true => rw [s.dataAccesses_call_taken a hc]; rfl
    | false => rw [s.dataAccesses_call_not_taken a hc]; rfl
  | _ => cases h

theorem length_dataAccesses_le (s : State) {v : Variant} (hwf : v.wf = true) : (s.dataAccesses v).length ≤ 2 := by
  cases v with
  | alu op src => exact (s.length_srcAccesses_le src).trans (by decide)
  | load8 dst src =>
    cases dst with
    | reg r => rw [dataAccesses_load8_reg]; exact (s.length_srcAccesses_le src).trans (by decide)
    | mem m => rw [s.dataAccesses_load8_mem hwf]; simp
  | call cc a =>
    cases hc : conditionHolds cc s.f with
    | true => rw [s.dataAccesses_call_taken a hc]; rfl
    | false => rw [s.dataAccesses_call_not_taken a hc]; simp
  | ret cc => rcases s.dataAccesses_ret cc with hd | hd <;> rw [hd] <;> simp [popAccesses]
  | _ => simp [dataAccesses, pushAccesses, popAccesses]

/-! ### Bytes that a variant leaves (R43, R48) -/

/-- A variant leaves every byte that its data accesses do not write. -/
theorem readByte_run_other (s : State) {v : Variant} {b : Word}
    (h : ∀ a w, Access.write a w ∈ s.dataAccesses v → b ≠ a) : (s.run v).readByte b = s.readByte b := by
  rw [readByte, mem_run, Memory.read_replay_other _ h, readByte]

/-- A word written by two accesses changes the bytes at their addresses only. -/
theorem readByte_run_of_two_writes (s : State) {v : Variant} {a a' b : Word} {w w' : Byte}
    (hv : s.dataAccesses v = [.write a w, .write a' w']) (h : b ≠ a) (h' : b ≠ a') :
    (s.run v).readByte b = s.readByte b := by
  refine s.readByte_run_other fun c x hm => ?_
  rw [hv] at hm
  simp only [List.mem_cons, Access.write.injEq, List.not_mem_nil, or_false] at hm
  rcases hm with ⟨rfl, -⟩ | ⟨rfl, -⟩
  · exact h
  · exact h'

/-- A variant that makes reads only leaves every byte. -/
theorem readByte_run_of_reads (s : State) {v : Variant} (b : Word) (h : s.ReadsOf (s.dataAccesses v)) :
    (s.run v).readByte b = s.readByte b :=
  s.readByte_run_other fun _ _ hm => nomatch List.all_eq_true.mp h.all_isRead _ hm

/-- An encodable store through a memory operand leaves every byte but its target. -/
theorem readByte_run_load8_mem (s : State) {m : MemOp} {src : Src} {b : Word} (hwf : loadForm (.mem m) src = true)
    (h : b ≠ s.addrOf m) : (s.run (.load8 (.mem m) src)).readByte b = s.readByte b := by
  refine s.readByte_run_other fun c w hm => ?_
  rw [s.dataAccesses_load8_mem hwf, List.mem_singleton, Access.write.injEq] at hm
  rwa [hm.1]

/-! ### The bus view of a step (R59) -/

theorem busAccesses_of_variant {s : State} {v : Variant} (hr : s.status = .running) (hv : s.fetch.variant = some v) :
    s.busAccesses = s.readAccess s.pc :: (s.immediateAccesses v ++ s.dataAccesses v) := by
  simp only [busAccesses, hr, hv]

theorem busAccesses_of_no_variant {s : State} (hr : s.status = .running) (hv : s.fetch.variant = none) :
    s.busAccesses =
      s.readAccess s.pc :: (s.fetch.secondByte.map fun _ => s.readAccess (s.pc + 1)).toList := by
  simp only [busAccesses, hr, hv]

/-- The immediates are read, if they are accessed at all (R59). -/
theorem readsOf_immediateAccesses (s : State) (v : Variant) : s.ReadsOf (s.immediateAccesses v) := by
  unfold immediateAccesses
  split
  · exact ⟨(List.range v.immediates.length).map fun k => s.pc + 1 + BitVec.ofNat 16 k, by
      rw [List.map_map]; rfl⟩
  · exact ⟨[], rfl⟩

/-- A data access that reads shows the byte in the state before the step: a variant that stores reads no data. -/
theorem eq_readByte_of_mem_dataAccesses {s : State} {v : Variant} {a : Word} {w : Byte} (hwf : v.wf = true)
    (h : Access.read a w ∈ s.dataAccesses v) : w = s.readByte a := by
  cases hs : stores v with
  | false => exact (s.readsOf_dataAccesses hs).eq_readByte h
  | true => exact nomatch List.all_eq_true.mp (s.all_isWrite_dataAccesses hwf hs) _ h

/-- A variant that does not read its immediates makes no access to them: a JP or CALL that is not taken (R59, D13). -/
theorem immediateAccesses_not_taken (s : State) {v : Variant} (h : s.readsImmediates v = false) :
    s.immediateAccesses v = [] := by
  simp [immediateAccesses, h]

/-- A taken JP reads its two immediate bytes at PC + 1 and PC + 2 (R59). -/
theorem immediateAccesses_jp_taken (s : State) {cc : Cond} (a : Word) (h : conditionHolds cc s.f = true) :
    s.immediateAccesses (.jp cc a) = [s.readAccess (s.pc + 1), s.readAccess (s.pc + 2)] := by
  have hreads : s.readsImmediates (.jp cc a) = true := (holds_eq_conditionHolds cc s.f).trans h
  have hnext : s.pc + 1 + 1 = s.pc + 2 := by bv_omega
  simpa [immediateAccesses, hreads, Variant.immediates, List.range_succ] using congrArg s.readAccess hnext

end State

/-! ### The obligations -/

/-- Settles O58: the opcode byte and the immediates are only read, and the data accesses of a variant give its memory. -/
theorem busWritesGiveTheMemory : Obligations.BusWritesGiveTheMemory := by
  intro s t h
  obtain ⟨hr, he⟩ := step_eq_next h
  obtain ⟨v, hv, hwf, rfl⟩ | ⟨hv, rfl⟩ := exec_cases he
  · rw [State.busAccesses_of_variant hr hv]
    constructor
    · calc (s.run v).mem
        _ = s.mem.replay (s.dataAccesses v) := mem_run s v
        _ = s.mem.replay (s.immediateAccesses v ++ s.dataAccesses v) :=
          (s.mem.replay_reads_append _ (s.readsOf_immediateAccesses v).all_isRead).symm
    · intro a w hm
      rcases List.mem_cons.mp hm with hm | hm
      · cases hm; rfl
      rcases List.mem_append.mp hm with hm | hm
      · exact (s.readsOf_immediateAccesses v).eq_readByte hm
      · exact State.eq_readByte_of_mem_dataAccesses hwf hm
  · rw [State.busAccesses_of_no_variant hr hv]
    cases s.fetch.secondByte with
    | none => exact ⟨rfl, fun a w => State.ReadsOf.eq_readByte ⟨[s.pc], rfl⟩⟩
    | some op => exact ⟨rfl, fun a w => State.ReadsOf.eq_readByte ⟨[s.pc, s.pc + 1], rfl⟩⟩

/-- Settles O12: a variant leaves the run status, and an instruction without one raises its report. -/
theorem onlyUnknownOpcodeIsRaisedAndPrecisely : Obligations.OnlyUnknownOpcodeIsRaisedAndPrecisely := by
  intro s t h
  obtain ⟨hr, he⟩ := step_eq_next h
  obtain ⟨v, -, -, rfl⟩ | ⟨-, rfl⟩ := exec_cases he
  · exact .inl ((status_run s v).trans hr)
  · obtain ⟨op, prefixed, hrep⟩ := reportOf_eq_unknownOpcode s.fetch
    exact .inr ⟨op, prefixed, by rw [hrep]; rfl⟩

/-- Settles O15: the opcode fetched is the byte at PC, which is the byte that was stored there. -/
theorem storeIsSeenByNextFetch : Obligations.StoreIsSeenByNextFetch := by
  intro i m r s t hv h haddr
  obtain rfl : s.run (.load8 (.mem m) (.reg r)) = t := by
    rw [exec_of_variant hv] at h
    exact Host.Outcome.next.inj h
  rw [opcode_fetch, ← haddr, State.readByte, mem_run]
  exact Memory.read_write_same ..

/-- Settles O21, from read after write of bytes and of the two bytes of a word. -/
theorem memoryReadsWhatWasWritten : Obligations.MemoryReadsWhatWasWritten := by
  intro s a b v w
  have hlo : (s.writeWord a w).readByte a = loByte w := by
    rw [State.readByte_writeWord, if_neg (State.word_ne_succ a), if_pos rfl]
  have hhi : (s.writeWord a w).readByte (a + 1) = hiByte w := by
    rw [State.readByte_writeWord, if_pos rfl]
  refine ⟨readByte_writeByte_same s a v, readByte_writeByte_other s v, rfl, hlo, hhi, ?_, fun h h' => ?_⟩
  · rw [State.readWord, hlo, hhi, mkWord_hi_lo]
  · rw [State.readByte_writeWord, if_neg h', if_neg h]

/-- Settles O57, clause by clause from the writes among the data accesses of the variant. -/
theorem bytesOutsideTheStoreAreUnchanged : Obligations.BytesOutsideTheStoreAreUnchanged := by
  intro i s t b h
  obtain ⟨v, hv, hwf, rfl⟩ | ⟨hv, rfl⟩ := exec_cases h
  · rw [hv]
    refine ⟨?_, ?_, ?_, ?_, ?_, fun hstores => ?_⟩
    · rintro m src ⟨⟩ hb
      exact s.readByte_run_load8_mem hwf hb
    · rintro a ⟨⟩ hb hb'
      exact s.readByte_run_of_two_writes rfl hb hb'
    · rintro p ⟨⟩ hb hb'
      exact s.readByte_run_of_two_writes rfl hb hb'
    · rintro cc a ⟨⟩ hc hb hb'
      exact s.readByte_run_of_two_writes (s.dataAccesses_call_taken a hc) hb hb'
    · rintro cc a ⟨⟩ hc
      exact s.readByte_run_of_reads b ⟨[], s.dataAccesses_call_not_taken a hc⟩
    · exact s.readByte_run_of_reads b (s.readsOf_dataAccesses (hstores v rfl))
  · rw [hv]
    exact ⟨nofun, nofun, nofun, nofun, nofun, fun _ => rfl⟩

/-- Settles O59: an encodable variant that stores makes writes only, any other reads only. -/
theorem noInstructionReadsAndWritesData : Obligations.NoInstructionReadsAndWritesData := by
  intro i v s hv
  have hwf := wf_of_variant hv
  refine ⟨?_, s.length_dataAccesses_le hwf⟩
  cases hs : stores v with
  | false => exact .inl (s.readsOf_dataAccesses hs).all_isRead
  | true => exact .inr (s.all_isWrite_dataAccesses hwf hs)

/-- Settles O60: the bytes at PC are the instruction's, and only a taken branch reads those after the first. -/
theorem notTakenBranchReadsOnlyItsOpcode : Obligations.NotTakenBranchReadsOnlyItsOpcode := by
  intro i cc a s hr hbytes
  have hfetch : s.fetch = i := fetch_of_bytes hbytes
  have hop : s.readAccess s.pc = .read s.pc i.opcode := by rw [State.readAccess, ← opcode_fetch, hfetch]
  constructor
  · intro hvar hc
    have hcond : cc.holds s.f = false := (holds_eq_conditionHolds cc s.f).trans hc
    obtain ⟨v, hv, himm, hdata⟩ :
        ∃ v, i.variant = some v ∧ s.readsImmediates v = false ∧ s.dataAccesses v = [] := by
      rcases hvar with hv | hv
      · exact ⟨_, hv, hcond, rfl⟩
      · exact ⟨_, hv, hcond, s.dataAccesses_call_not_taken a hc⟩
    rw [State.busAccesses_of_variant hr (hfetch ▸ hv), s.immediateAccesses_not_taken himm, hdata, hop]
    rfl
  · intro hv hc
    have hoperands : i.operands = [loByte a, hiByte a] := by rw [Instr.operands, hv]; rfl
    rw [encode, hoperands, State.bytesAtPC] at hbytes
    simp only [List.cons_prefix_cons, List.nil_prefix, and_true] at hbytes
    obtain ⟨-, hlo, hhi⟩ := hbytes
    rw [State.busAccesses_of_variant hr (hfetch ▸ hv), s.immediateAccesses_jp_taken a hc, hop, hlo, hhi]
    rfl

/-- Settles O23: the range check compares with 65,536, which no 16-bit address reaches. -/
theorem outOfRangeOnlyBeyondSixteenBits : Obligations.OutOfRangeOnlyBeyondSixteenBits := by
  intro m addr v
  have houtside : 65536 ≤ addr ↔ ¬addr < Config.memSize := Nat.not_lt.symm
  refine ⟨?_, ?_, fun a => ⟨busRead_word m a, busWrite_word m a v⟩⟩
  · rw [houtside, busRead]
    split <;> simp [*]
  · rw [houtside, busWrite]
    split <;> simp [*]

end Sys2Proof.Machine

/-! Proofs for the family of the encoding (30_encoding.md): the decoder of byte lists and the encoder undo each other, the
decode table has an entry exactly on the assigned bytes, and a step does what the bytes at PC decode to. -/

namespace Sys2Proof.Machine

open Sys2Proof.Statements

/-! ### How many bytes follow the opcode byte (R72) -/

theorem memOp_width_le_three (m : MemOp) : m.width ≤ 3 := by
  cases m <;> simp [MemOp.width]

theorem src_width_le_three (src : Src) : src.width ≤ 3 := by
  cases src with
  | mem m => exact memOp_width_le_three m
  | reg r => simp [Src.width]
  | d8 w => simp [Src.width]

theorem dst_width_le_three (dst : Dst) : dst.width ≤ 3 := by
  cases dst with
  | mem m => exact memOp_width_le_three m
  | reg r => simp [Dst.width]

/-- A byte load has at most two immediate bytes, because only one of its operands brings any (R160). -/
theorem length_immediates_le_two {v : Variant} (h : v.wf = true) : v.immediates.length ≤ 2 := by
  cases v with
  | alu op src =>
    have hsrc := src_width_le_three src
    rw [src_width] at hsrc
    exact Nat.le_of_add_le_add_left hsrc
  | load8 dst src =>
    have hmax := max_le (dst_width_le_three dst) (src_width_le_three src)
    rw [load8_width h] at hmax
    exact Nat.le_of_add_le_add_left hmax
  | _ => simp [Variant.immediates]

theorem operands_of_variant {i : Instr} {v : Variant} (h : i.variant = some v) : i.operands = v.immediates := by
  rw [Instr.operands, h]

theorem operands_of_no_variant {i : Instr} (h : i.variant = none) : i.operands = i.secondByte.toList := by
  rw [Instr.operands, h]

/-- No instruction is longer than three bytes (R72, R79). -/
theorem length_operands_le_two (i : Instr) : i.operands.length ≤ 2 := by
  cases hv : i.variant with
  | some v => rw [operands_of_variant hv]; exact length_immediates_le_two (wf_of_variant hv)
  | none => rw [operands_of_no_variant hv]; cases i.secondByte <;> simp

/-! ### The opcode map covers every instruction, and uses only the bytes it needs -/

/-- Every instruction stands in the opcode map, at its own opcode byte. -/
theorem exists_decodeAt_eq (i : Instr) : ∃ x y, decodeAt i.opcode x y = i := by
  have hlen := length_operands_le_two i
  match h : i.operands, hlen with
  | [], _ => exact ⟨0, 0, decodeAt_of_operands (by simp [h])⟩
  | [x], _ => exact ⟨x, 0, decodeAt_of_operands (by simp [h])⟩
  | [x, y], _ => exact ⟨x, y, decodeAt_of_operands (by simp [h])⟩

/-- A row reads no more bytes than it has operands: bytes that agree so far select the same instruction (R71). -/
theorem decodeAt_congr {b0 x y x' y' : Byte}
    (h : [x, y].take (decodeAt b0 0 0).operands.length = [x', y'].take (decodeAt b0 0 0).operands.length) :
    decodeAt b0 x y = decodeAt b0 x' y' := by
  have hprefix : (decodeAt b0 x y).operands <+: [x', y'] := by
    rw [operands_decodeAt, h]
    exact List.take_prefix ..
  have heq := decodeAt_of_operands hprefix
  rw [opcode_decodeAt] at heq
  exact heq.symm

/-- The encoding of a row is its opcode byte and as many of the bytes given as the row has operands (R70). -/
theorem encode_decodeAt (b0 x y : Byte) :
    encode (decodeAt b0 x y) = b0 :: [x, y].take (decodeAt b0 0 0).operands.length := by
  rw [encode, opcode_decodeAt, operands_decodeAt]

/-! ### The decoder of byte lists -/

/-- What the decoder of byte lists answers: the instruction that the opcode byte selects with the bytes after it, and the
list that its operands leave. -/
theorem decode_cons_eq_ok_iff {b0 : Byte} {rest tail : List Byte} {i : Instr} :
    decode (b0 :: rest) = .ok (i, tail) ↔
      ∃ x y, decodeAt b0 x y = i ∧ [x, y].take (decodeAt b0 0 0).operands.length ++ tail = rest := by
  constructor
  · intro h
    unfold decode at h
    dsimp only at h
    split at h
    next hn => cases h; exact ⟨0, 0, rfl, by rw [hn]; rfl⟩
    next b1 more hn => cases h; exact ⟨b1, 0, rfl, by rw [hn]; rfl⟩
    next b1 b2 more hn => cases h; exact ⟨b1, b2, rfl, by rw [hn]; rfl⟩
    next => cases h
  · rintro ⟨x, y, rfl, rfl⟩
    have hlen := length_operands_le_two (decodeAt b0 0 0)
    match hn : (decodeAt b0 0 0).operands.length, hlen with
    | 0, _ =>
      have heq : decodeAt b0 x y = decodeAt b0 0 0 := decodeAt_congr (by rw [hn]; rfl)
      simp only [decode, hn, heq, List.take_zero, List.nil_append]
    | 1, _ =>
      have heq : decodeAt b0 x y = decodeAt b0 x 0 := decodeAt_congr (by rw [hn]; rfl)
      simp only [decode, hn, heq, List.take_succ_cons, List.take_zero, List.cons_append, List.nil_append]
    | 2, _ => simp only [decode, hn, List.take_succ_cons, List.take_zero, List.cons_append, List.nil_append]

theorem encode_append_of_decode {bytes rest : List Byte} {i : Instr} (h : decode bytes = .ok (i, rest)) :
    encode i ++ rest = bytes := by
  cases bytes with
  | nil => cases h
  | cons b0 more =>
    obtain ⟨x, y, rfl, rfl⟩ := decode_cons_eq_ok_iff.mp h
    rw [encode_decodeAt, List.cons_append]

theorem decode_encode_append (i : Instr) (rest : List Byte) : decode (encode i ++ rest) = .ok (i, rest) := by
  obtain ⟨x, y, h⟩ := exists_decodeAt_eq i
  rw [← h, encode_decodeAt]
  exact decode_cons_eq_ok_iff.mpr ⟨x, y, rfl, rfl⟩

/-! ### The decode table (R79) -/

/-- An instruction is well-formed exactly when it is assigned: the operands of an assigned one have an encoding. -/
theorem wf_eq_isSome_variant (i : Instr) : i.wf = i.variant.isSome := by
  unfold Instr.wf
  split
  next v hv => rw [wf_of_variant hv, hv]; rfl
  next hv => rw [hv]; rfl

theorem decodeEntry_eq_some_iff {op b1 b2 : Byte} {entry : Entry} :
    decodeEntry op false b1 b2 = some entry ↔ (decodeAt op b1 b2).wf = true ∧
      ⟨decodeAt op b1 b2, (decodeAt op b1 b2).len, Config.baseCycles op false⟩ = entry := by
  simp [decodeEntry]

theorem decodeEntry_eq_none_iff {op b1 b2 : Byte} :
    decodeEntry op false b1 b2 = none ↔ (decodeAt op b1 b2).variant = none := by
  simp [decodeEntry, wf_eq_isSome_variant]

/-- The opcode map has no variant exactly on the bytes that R86 lists and on the escape byte 0xCB (R80). -/
theorem isSome_variant_decodeAt (op b1 b2 : Byte) :
    (decodeAt op b1 b2).variant.isSome = !decide (op ∈ unassignedBytes ∨ op = 0xCB) := by
  rw [← wf_eq_isSome_variant, wf_decodeAt]
  revert op; apply forall_byte
  intro n hn
  interval_cases n <;> rfl

theorem variant_decodeAt_eq_none_iff {op b1 b2 : Byte} :
    (decodeAt op b1 b2).variant = none ↔ op ∈ unassignedBytes ∨ op = 0xCB := by
  rw [← Option.isNone_iff_eq_none, ← Option.not_isSome, isSome_variant_decodeAt, Bool.not_not, decide_eq_true_iff]

/-! ### Instructions without a variant -/

/-- Only the escape byte 0xCB is followed by a second opcode byte (R71). -/
theorem secondByte_eq_none_iff {i : Instr} : i.secondByte = none ↔ i.opcode ≠ 0xCB := by
  obtain ⟨x, y, hi⟩ := exists_decodeAt_eq i
  rw [← hi, secondByte_decodeAt, opcode_decodeAt, ite_eq_right_iff]
  exact forall_congr' fun _ => by simp

/-- An instruction without a variant and without a second byte reports its opcode byte and changes only the status. -/
theorem exec_unassigned {i : Instr} (hv : i.variant = none) (h2 : i.secondByte = none) (s : State) :
    exec i s = .next { s with status := .faulted (.unknownOpcode i.opcode false) } := by
  rw [exec_of_no_variant hv, reportOf, h2]
  rfl

/-- An instruction's own encoding at PC steps to what the instruction does. -/
theorem encodedStep_of_exec {i : Instr} {s t : State} (h : exec i s = .next t) : EncodedStep i (encode i) s t :=
  ⟨rfl, fun hr hbytes => (step_of_bytes hr hbytes).trans h⟩

/-- A Running machine executes the instruction it fetches. -/
theorem step_of_running {s : State} (h : s.status = .running) : step s = exec s.fetch s := by
  rw [step, h]

/-- With the escape byte 0xCB at PC, the byte after it is fetched as the second opcode byte (R71). -/
theorem fetch_of_prefix {s : State} (h : s.readByte s.pc = 0xCB) : s.fetch = .prefix_cb (s.readByte (s.pc + 1)) := by
  rw [State.fetch, h]
  rfl

/-! ### The obligations -/

/-- Settles O2: the instruction is the row at its opcode byte, and the decoder takes the operands of that row. -/
theorem decodeOfEncodeGivesInstructionBack : Obligations.DecodeOfEncodeGivesInstructionBack :=
  decode_encode_append

/-- Settles O3: the operands of a row are the bytes it was selected with. -/
theorem encodeOfDecodeGivesBytesBack : Obligations.EncodeOfDecodeGivesBytesBack :=
  fun _ _ _ => encode_append_of_decode

/-- Settles O4, instruction by instruction: R81's opcode byte is the value of R73's pattern. -/
theorem fieldViewAgreesWithOpcodeMap : Obligations.FieldViewAgreesWithOpcodeMap := by
  intro i v h
  cases i <;> simp only [Instr.variant, Option.some.injEq, reduceCtorEq] at h <;> subst h <;> rfl

/-- Settles O6: an entry exists where the opcode map has a variant. -/
theorem unassignedBytesHaveNoEntry : Obligations.UnassignedBytesHaveNoEntry := by
  refine ⟨fun op b1 b2 => decodeEntry_eq_none_iff.trans variant_decodeAt_eq_none_iff, fun _ _ _ => rfl, ?_⟩
  rfl

/-- Settles O7: the length and the presence of an entry depend on the row, which the opcode byte selects. -/
theorem declaredLengthMatchesImmediates : Obligations.DeclaredLengthMatchesImmediates := by
  intro op b1 b2 entry h
  obtain ⟨hwf, rfl⟩ := decodeEntry_eq_some_iff.mp h
  have hlen := length_operands_le_two (decodeAt op b1 b2)
  refine ⟨rfl, Nat.add_comm .., Nat.le_add_right .., Nat.add_le_add_left hlen 1, fun b1' b2' => ?_⟩
  have hwf' : (decodeAt op b1' b2').wf = true := by rwa [wf_decodeAt, ← wf_decodeAt op b1 b2]
  refine ⟨_, decodeEntry_eq_some_iff.mpr ⟨hwf', rfl⟩, ?_⟩
  show 1 + _ = 1 + _
  rw [operandCount_decodeAt, ← operandCount_decodeAt op b1 b2]

/-- Settles O17: an instruction without a variant is at a byte of R86 or at 0xCB, and 0xCB has a second byte. -/
theorem unassignedInstructionsRaiseUnknownOpcode : Obligations.UnassignedInstructionsRaiseUnknownOpcode := by
  intro i s hv h2 t
  have hexec : exec i s = .next t := exec_unassigned hv h2 s
  have hencode : encode i = [i.opcode] := by rw [encode, operands_of_no_variant hv, h2]; rfl
  have hmem : i.opcode ∈ unassignedBytes := by
    obtain ⟨x, y, hi⟩ := exists_decodeAt_eq i
    rw [← hi] at hv
    exact (variant_decodeAt_eq_none_iff.mp hv).resolve_right (secondByte_eq_none_iff.mp h2)
  exact ⟨hexec, hmem, hencode ▸ encodedStep_of_exec hexec⟩

/-- Settles O1: each word is the encoding of its instruction, and O2 decodes it. -/
theorem sampleWordsDecode : Obligations.SampleWordsDecode :=
  ⟨decode_encode_append .nop [], decode_encode_append .add_a_b [], decode_encode_append (.cp_d8 0x80) [],
    decode_encode_append .add_hl_hl [], decode_encode_append (.add_sp_e8 0xF8) [],
    decode_encode_append (.jp_a16 0x1234) [], decode_encode_append .ld_mhl_h [0xAA],
    decode_encode_append (.ld_sp_d16 0xFFFE) [], decode_encode_append .push_af [],
    decode_encode_append (.call_c_a16 0x3000) [], decode_encode_append .ret_c [],
    decode_encode_append .unassigned_76 [], decode_encode_append (.prefix_cb 0x37) []⟩

/-- Settles O8: bytes that decode to an instruction begin with its encoding. -/
theorem stepRunsTheDecodedInstruction : Obligations.StepRunsTheDecodedInstruction :=
  fun _ _ rest hr h => step_of_bytes hr ⟨rest, encode_append_of_decode h⟩

/-- Settles O9: the entry's instruction is the one fetched, and a row without an entry has no variant. -/
theorem stepFollowsFetchAndDecode : Obligations.StepFollowsFetchAndDecode := by
  intro s hr
  rw [step_of_running hr]
  refine ⟨fun hcb => ?_, fun hcb hnone => ?_, fun entry h => ?_⟩
  · rw [fetch_of_prefix hcb]
    rfl
  · rw [← opcode_fetch] at hcb ⊢
    exact exec_unassigned (decodeEntry_eq_none_iff.mp hnone) (secondByte_eq_none_iff.mpr hcb) s
  · obtain ⟨-, rfl⟩ := decodeEntry_eq_some_iff.mp h
    rfl

/-- Settles O18: the escape raises with its second byte. -/
theorem prefixRaisesUnknownOpcode : Obligations.PrefixRaisesUnknownOpcode :=
  fun _ _ => ⟨rfl, encodedStep_of_exec rfl⟩

end Sys2Proof.Machine

/-! Proofs for the family of NOP and the 8-bit ALU (40_nop_alu8.md): the two arithmetic functions in closed form, and what
any ALU instruction does, from which each operation follows by its own function. -/

namespace Sys2Proof.Machine

open Sys2Proof.Statements

/-! ### The addition and subtraction functions in closed form (R126, R127) -/

theorem add8_eq (a v : Byte) (ci : Bool) :
    add8 a v ci = ⟨a + v + BitVec.ofNat 8 ci.toNat,
      { z := decide ((a.toNat + v.toNat + ci.toNat) % 256 = 0)
        n := false
        h := decide (a.toNat % 16 + v.toNat % 16 + ci.toNat > 15)
        c := decide (a.toNat + v.toNat + ci.toNat > 255) }⟩ := by
  have hres : BitVec.ofNat 8 (a.toNat + v.toNat + ci.toNat) = a + v + BitVec.ofNat 8 ci.toNat := by
    simp [BitVec.ofNat_add]
  have hz : (a + v + BitVec.ofNat 8 ci.toNat == 0) = decide ((a.toNat + v.toNat + ci.toNat) % 256 = 0) := by
    rw [beq_eq_decide, decide_eq_decide, ← hres, ← BitVec.toNat_inj, BitVec.toNat_ofNat]
    rfl
  rw [← hz, ← hres]; rfl

theorem sub8_eq (a v : Byte) (bi : Bool) :
    sub8 a v bi = ⟨a - v - BitVec.ofNat 8 bi.toNat,
      { z := decide (a = v + BitVec.ofNat 8 bi.toNat)
        n := true
        h := decide (a.toNat % 16 < v.toNat % 16 + bi.toNat)
        c := decide (a.toNat < v.toNat + bi.toNat) }⟩ := by
  have hres : BitVec.ofInt 8 ((a.toNat : Int) - v.toNat - bi.toNat) = a - v - BitVec.ofNat 8 bi.toNat := by
    simp [Int.sub_eq_add_neg, BitVec.sub_eq_add_neg, BitVec.ofInt_add, BitVec.ofInt_neg]
  have hz : (a - v - BitVec.ofNat 8 bi.toNat == 0) = decide (a = v + BitVec.ofNat 8 bi.toNat) := by
    rw [beq_eq_decide, decide_eq_decide, sub_sub, sub_eq_zero]
  have hh : ((lowNibble a : Int) - lowNibble v - bi.toNat < 0) ↔ a.toNat % 16 < v.toNat % 16 + bi.toNat := by
    unfold lowNibble; omega
  have hc : ((a.toNat : Int) - v.toNat - bi.toNat < 0) ↔ a.toNat < v.toNat + bi.toNat := by omega
  simp only [sub8, hres, hz, hh, hc]

/-- Addition without a carry-in. -/
theorem add8_false (a v : Byte) :
    add8 a v false = ⟨a + v,
      { z := decide ((a.toNat + v.toNat) % 256 = 0)
        n := false
        h := decide (a.toNat % 16 + v.toNat % 16 > 15)
        c := decide (a.toNat + v.toNat > 255) }⟩ := by
  simp [add8_eq]

/-- Subtraction without a borrow-in: that of SUB and of CP. -/
theorem sub8_false (a v : Byte) :
    sub8 a v false = ⟨a - v,
      { z := decide (a = v)
        n := true
        h := decide (a.toNat % 16 < v.toNat % 16)
        c := decide (a.toNat < v.toNat) }⟩ := by
  simp [sub8_eq]

/-- A sum of two bytes and a bit exceeds a byte exactly when bit 8 of the nine-bit sum is set (R128). -/
theorem getLsbD_eight_nineBitSum (a v : Byte) (ci : Bool) :
    (a.setWidth 9 + v.setWidth 9 + BitVec.ofNat 9 ci.toNat).getLsbD 8 = decide (a.toNat + v.toNat + ci.toNat > 255) := by
  have ha := a.isLt
  have hv := v.isLt
  have hci := ci.toNat_le
  have hsum : (a.setWidth 9 + v.setWidth 9 + BitVec.ofNat 9 ci.toNat).toNat = a.toNat + v.toNat + ci.toNat := by
    simp only [BitVec.toNat_add, BitVec.toNat_setWidth, BitVec.toNat_ofNat]
    omega
  rw [BitVec.getLsbD, hsum, Nat.testBit_eq_decide_div_mod_eq, decide_eq_decide]
  omega

/-- The statements' carry-in is the carry flag as a number. -/
theorem carryIn_eq_toNat (s : State) : carryIn s = s.f.c.toNat := by
  unfold carryIn
  cases s.f.c <;> rfl

/-! ### What any ALU instruction does (R125, R73) -/

/-- The only memory operand of the ALU is (HL) (R125). -/
theorem eq_hl_of_aluForm {m : MemOp} (h : (Src.mem m).aluForm = true) : m = .hl := by
  cases m <;> simp [Src.aluForm] at h ⊢

namespace State

theorem readSrc_eq_aluOperand (s : State) {src : Src} (h : src.aluForm = true) :
    s.readSrc src = aluOperand s src := by
  cases src with
  | reg r => rfl
  | mem m => rw [eq_hl_of_aluForm h]; rfl
  | d8 v => rfl

theorem advance_eq_aluPC (s : State) {src : Src} (h : src.aluForm = true) :
    s.advance src.width = { s with pc := aluPC s src } := by
  cases src with
  | reg r => rfl
  | mem m => rw [eq_hl_of_aluForm h]; rfl
  | d8 v => rfl

/-- An ALU instruction gives A and the flags what its operation gives them, and passes its own bytes. -/
theorem runAlu_eq (s : State) {op : AluOp} {src : Src} (h : src.aluForm = true) {a : Byte} {f : Flags}
    (halu : s.alu op (aluOperand s src) = { s with a, f }) :
    s.runAlu op src = { s with a, f, pc := aluPC s src } := by
  rw [runAlu, readSrc_eq_aluOperand s h, halu, advance_eq_aluPC _ h]
  cases src <;> rfl

end State

/-- The low field stands in bits of its own, so it can be put in last. -/
theorem opcodeOfFields_eq_or (x y z : Byte) : opcodeOfFields x y z = opcodeOfFields x y 0 ||| z := by
  simp [opcodeOfFields]

/-- The bytes of an ALU instruction, from the field view of its opcode byte (R73, R74, R77). -/
theorem encode_of_alu {i : Instr} {op : AluOp} {src : Src} (h : i.variant = some (.alu op src)) :
    encode i = aluBytes (opcodeOfFields 0b10 op.field 0) (opcodeOfFields 0b11 op.field 0b110) src := by
  have hop : aluOpcode op src = some i.opcode := fieldViewAgreesWithOpcodeMap i _ h
  have hwf : src.aluForm = true := wf_of_variant h
  rw [encode, operands_of_variant h]
  cases src with
  | reg r =>
    rw [aluOpcode, opcodeOfFields_eq_or, Option.some.injEq] at hop
    rw [← hop]; rfl
  | mem m =>
    rw [eq_hl_of_aluForm hwf, aluOpcode, if_pos rfl, opcodeOfFields_eq_or, Option.some.injEq] at hop
    rw [← hop, eq_hl_of_aluForm hwf]; rfl
  | d8 v =>
    rw [aluOpcode, Option.some.injEq] at hop
    rw [← hop]; rfl

/-- Every ALU instruction, at once: what its operation gives A and the flags in the state before it is what the instruction
and the step its bytes make leave there, with PC past those bytes and nothing else changed. -/
theorem exec_and_encodedStep_of_alu {i : Instr} {op : AluOp} {src : Src} {s : State} {a : Byte} {f : Flags}
    (h : i.variant = some (.alu op src)) (halu : s.alu op (aluOperand s src) = { s with a, f }) :
    exec i s = .next { s with a, f, pc := aluPC s src } ∧
      EncodedStep i (aluBytes (opcodeOfFields 0b10 op.field 0) (opcodeOfFields 0b11 op.field 0b110) src) s
        { s with a, f, pc := aluPC s src } := by
  have hexec : exec i s = .next { s with a, f, pc := aluPC s src } := by
    rw [exec_of_variant h, State.run, s.runAlu_eq (wf_of_variant h) halu]
  exact ⟨hexec, encode_of_alu h ▸ encodedStep_of_exec hexec⟩

/-! ### The obligations -/

/-- Settles O27: addition without a carry-in. -/
theorem addGivesSumAndCarries : Obligations.AddGivesSumAndCarries := by
  intro i src s h
  refine exec_and_encodedStep_of_alu h ?_
  rw [State.alu, State.setAF8, add8_false]

/-- Settles O28: addition with the carry flag. -/
theorem adcGivesSumWithCarryIn : Obligations.AdcGivesSumWithCarryIn := by
  intro i src s h
  refine exec_and_encodedStep_of_alu h ?_
  rw [State.alu, State.setAF8, add8_eq, carryIn_eq_toNat]

/-- Settles O29: subtraction without a borrow-in. -/
theorem subGivesDifferenceAndBorrows : Obligations.SubGivesDifferenceAndBorrows := by
  intro i src s h
  refine exec_and_encodedStep_of_alu h ?_
  rw [State.alu, State.setAF8, sub8_false]

/-- Settles O30: subtraction with the carry flag as the borrow-in. -/
theorem sbcGivesDifferenceWithBorrowIn : Obligations.SbcGivesDifferenceWithBorrowIn := by
  intro i src s h
  refine exec_and_encodedStep_of_alu h ?_
  rw [State.alu, State.setAF8, sub8_eq, carryIn_eq_toNat]

/-- Settles O31: the zero flag is the comparison that AND makes. -/
theorem andSetsHalfCarry : Obligations.AndSetsHalfCarry := by
  intro i src s h
  refine exec_and_encodedStep_of_alu h ?_
  rw [State.alu, State.setAF8, and8, beq_eq_decide]

/-- Settles O32: an exclusive or is zero exactly when its operands are equal. -/
theorem xorClearsTheOtherFlags : Obligations.XorClearsTheOtherFlags := by
  intro i src s h
  refine exec_and_encodedStep_of_alu h ?_
  simp only [State.alu, State.setAF8, xor8, beq_eq_decide, BitVec.ofNat_eq_ofNat, BitVec.xor_eq_zero_iff]

/-- Settles O33: an or is zero exactly when both its operands are. -/
theorem orClearsTheOtherFlags : Obligations.OrClearsTheOtherFlags := by
  intro i src s h
  refine exec_and_encodedStep_of_alu h ?_
  simp only [State.alu, State.setAF8, or8, beq_eq_decide, BitVec.ofNat_eq_ofNat, BitVec.or_eq_zero_iff]

/-- Settles O34: the flags of subtraction without a borrow-in, beside the A that was there. -/
theorem cpComparesAndKeepsA : Obligations.CpComparesAndKeepsA := by
  intro i src s h
  refine exec_and_encodedStep_of_alu (a := s.a) h ?_
  rw [State.alu, sub8_false]

/-- Settles O35: the closed forms, and bit 8 of the nine-bit sum. -/
theorem aluFunctionLaws : Obligations.AluFunctionLaws := by
  intro a v ci
  refine ⟨?_, ?_, ?_, ?_, ?_, ?_⟩
  · rw [add8_eq]
  · rw [add8_eq, getLsbD_eight_nineBitSum]
  · rw [sub8_eq]
  · rw [sub8_eq, decide_eq_true_iff]
  · simp [sub8_false]
  · have hzero : a.toNat % 256 = 0 ↔ a = 0 := by rw [← BitVec.toNat_inj, Nat.mod_eq_of_lt a.isLt]; rfl
    have hhalf : ¬a.toNat % 16 > 15 := by omega
    have hcarry : ¬a.toNat > 255 := by have := a.isLt; omega
    simp [add8_false, hzero, hhalf, hcarry]

/-- Settles O26: NOP is the advance past its one byte. -/
theorem nopOnlyAdvancesPC : Obligations.NopOnlyAdvancesPC :=
  fun _ => ⟨rfl, encodedStep_of_exec rfl⟩

end Sys2Proof.Machine

/-! Proofs for the family of the 16-bit ALU (41_alu16.md): the two 16-bit additions in closed form, and what any
instruction and the step of its bytes do, from which both statements follow. -/

namespace Sys2Proof.Machine

open Sys2Proof.Statements

/-! ### The 16-bit additions in closed form (R140, R142) -/

theorem add16_eq (a b : Word) (z : Bool) :
    add16 a b z = ⟨a + b,
      { z
        n := false
        h := decide (a.toNat % 4096 + b.toNat % 4096 > 4095)
        c := decide (a.toNat + b.toNat > 65535) }⟩ := by
  have hres : BitVec.ofNat 16 (a.toNat + b.toNat) = a + b := by simp [BitVec.ofNat_add]
  rw [← hres]; rfl

/-- Adding the sign-extended offset as a word is adding the signed offset as an integer: both are taken modulo 2^16 (R142). -/
theorem ofNat_add_toNat_sext16 (sp : Word) (e : Byte) :
    BitVec.ofNat 16 (sp.toNat + (sext16 e).toNat) = BitVec.ofInt 16 (sp.toNat + e.toInt) :=
  calc BitVec.ofNat 16 (sp.toNat + (sext16 e).toNat)
    _ = sp + sext16 e := by simp [BitVec.ofNat_add]
    _ = BitVec.ofInt 16 sp.toNat + BitVec.ofInt 16 e.toInt := by simp [sext16, BitVec.signExtend]
    _ = BitVec.ofInt 16 (sp.toNat + e.toInt) := (BitVec.ofInt_add ..).symm

theorem spOffset_eq (sp : Word) (e : Byte) :
    spOffset sp e = ⟨BitVec.ofInt 16 (sp.toNat + e.toInt),
      { z := false
        n := false
        h := decide (sp.toNat % 16 + e.toNat % 16 > 15)
        c := decide (sp.toNat % 256 + e.toNat > 255) }⟩ := by
  rw [← ofNat_add_toNat_sext16]; rfl

/-- The operand of ADD HL,rr in the statements is the machine's table rp (R75, R140). -/
theorem rp_eq_addHLOperand (s : State) (rr : Rp) : s.rp rr = addHLOperand s rr := by
  cases rr <;> rfl

/-! ### What an instruction and the step of its bytes do -/

/-- What a variant's operation leaves is what its instruction leaves, and what the step of the instruction's bytes leaves. -/
theorem exec_and_encodedStep_of_run {i : Instr} {v : Variant} {s t : State} (h : i.variant = some v) (hrun : s.run v = t) :
    exec i s = .next t ∧ EncodedStep i (i.opcode :: v.immediates) s t := by
  have hexec : exec i s = .next t := hrun ▸ exec_of_variant h s
  exact ⟨hexec, operands_of_variant h ▸ encodedStep_of_exec hexec⟩

/-- The opcode byte of ADD HL,rr, `00 pp1 001` (R73, R75). -/
theorem opcode_of_addHL {i : Instr} {rr : Rp} (h : i.variant = some (.addHL rr)) : i.opcode = 0x09 ||| rr.field <<< 4 := by
  have hop : some (opcodeOfFields 0b00 (rr.field <<< 1 ||| 1) 0b001) = some i.opcode := fieldViewAgreesWithOpcodeMap i _ h
  rw [← Option.some.inj hop]
  cases rr <;> rfl

/-! ### The obligations -/

/-- Settles O36: the operation is the closed form of the addition, and the bytes are those of the field view. -/
theorem addHLCarriesOutOfBits11And15 : Obligations.AddHLCarriesOutOfBits11And15 := by
  intro i rr s h x y t
  have hadd : s.runAddHL rr = t := by rw [State.runAddHL, rp_eq_addHLOperand, add16_eq]; rfl
  have hrun := exec_and_encodedStep_of_run h hadd
  rwa [opcode_of_addHL h] at hrun

/-- Settles O37: both instructions add by the same function, and differ in where they put the sum. -/
theorem spPlusSignedOffset : Obligations.SPPlusSignedOffset := by
  intro e s sum flags t u
  have hout : spOffset s.sp e = ⟨sum, flags⟩ := spOffset_eq s.sp e
  have hadd : s.runAddSP e = t := by rw [State.runAddSP, hout]; rfl
  have hload : s.runLoadHLSP e = u := by rw [State.runLoadHLSP, hout]; rfl
  obtain ⟨hexec, hstep⟩ := exec_and_encodedStep_of_run (i := .add_sp_e8 e) rfl hadd
  exact ⟨hexec, hstep, exec_and_encodedStep_of_run (i := .ld_hl_sp_e8 e) rfl hload⟩

end Sys2Proof.Machine

/-! Proofs for the family of the jumps (42_jump.md): what a jump does whether or not its condition holds, and its opcode
byte, from which the statement about the five jumps follows. -/

namespace Sys2Proof.Machine

open Sys2Proof.Statements

/-- A jump, taken or not, changes PC only (R151, R152). -/
theorem State.runJp_eq (s : State) (cc : Cond) (a : Word) :
    s.runJp cc a = { s with pc := if conditionHolds cc s.f then a else s.pc + 3 } := by
  rw [runJp, holds_eq_conditionHolds]
  split <;> rfl

/-- The opcode byte of a jump: `11 0cc 010` with a condition, `11 000 011` without one (R73, R76). -/
theorem opcode_of_jp {i : Instr} {cc : Cond} {a : Word} (h : i.variant = some (.jp cc a)) :
    i.opcode = match cc.field with | some k => 0xC2 ||| k <<< 3 | none => 0xC3 := by
  have hop : some (conditionalOpcode cc 0b010 (opcodeOfFields 0b11 0b000 0b011)) = some i.opcode :=
    fieldViewAgreesWithOpcodeMap i _ h
  rw [← Option.some.inj hop]
  cases cc <;> rfl

/-! ### The obligations -/

/-- Settles O39: the operation is the jump in closed form, and the bytes are those of the field view. -/
theorem jumpTakesItsBranchOnTheCondition : Obligations.JumpTakesItsBranchOnTheCondition := by
  intro i cc a s h t
  obtain ⟨hexec, hstep⟩ := exec_and_encodedStep_of_run h (s.runJp_eq cc a)
  rw [opcode_of_jp h] at hstep
  exact ⟨hexec, hstep⟩

/-- Settles O38: each condition reads the flag that R150 names for it. -/
theorem conditionTable : Obligations.ConditionTable :=
  fun _ => ⟨rfl, rfl, rfl, rfl, rfl⟩

end Sys2Proof.Machine

/-! Proofs for the family of the byte loads (43_load8.md): which operand combinations have an instruction, and that no two
instructions share one; and what a byte load and the step of its bytes leave, from the shared operation at its operands. -/

namespace Sys2Proof.Machine

open Sys2Proof.Statements

/-! ### Every operand combination that has an encoding has an instruction (R81, R125, R160) -/

/-- The row of an ALU instruction is the one at the opcode byte of its fields (R73, R77). -/
theorem exists_variant_alu (op : AluOp) {src : Src} (h : src.aluForm = true) :
    ∃ i : Instr, i.variant = some (.alu op src) := by
  cases src with
  | reg r => exact ⟨decodeAt (opcodeOfFields 0b10 op.field r.field) 0 0, by cases op <;> cases r <;> rfl⟩
  | mem m =>
    rw [eq_hl_of_aluForm h]
    exact ⟨decodeAt (opcodeOfFields 0b10 op.field 0b110) 0 0, by cases op <;> rfl⟩
  | d8 w => exact ⟨decodeAt (opcodeOfFields 0b11 op.field 0b110) w 0, by cases op <;> rfl⟩

/-- Any memory operand is a source for A (R162, R168 to R179). -/
theorem exists_variant_load_a_mem : ∀ m : MemOp, ∃ i : Instr, i.variant = some (.load8 (.reg .a) (.mem m))
  | .hl => ⟨.ld_a_mhl, rfl⟩
  | .bc => ⟨.ld_a_mbc, rfl⟩
  | .de => ⟨.ld_a_mde, rfl⟩
  | .hlInc => ⟨.ld_a_mhli, rfl⟩
  | .hlDec => ⟨.ld_a_mhld, rfl⟩
  | .direct a => ⟨.ld_a_ma16 a, rfl⟩
  | .high v => ⟨.ldh_a_ma8 v, rfl⟩
  | .highC => ⟨.ld_a_mc, rfl⟩

/-- Any memory operand is a target for A (R163, R166 to R178). -/
theorem exists_variant_load_mem_a : ∀ m : MemOp, ∃ i : Instr, i.variant = some (.load8 (.mem m) (.reg .a))
  | .hl => ⟨.ld_mhl_a, rfl⟩
  | .bc => ⟨.ld_mbc_a, rfl⟩
  | .de => ⟨.ld_mde_a, rfl⟩
  | .hlInc => ⟨.ld_mhli_a, rfl⟩
  | .hlDec => ⟨.ld_mhld_a, rfl⟩
  | .direct a => ⟨.ld_ma16_a a, rfl⟩
  | .high v => ⟨.ldh_ma8_a v, rfl⟩
  | .highC => ⟨.ld_mc_a, rfl⟩

/-- A memory operand other than (HL) is loaded into A only (R160). -/
theorem eq_a_or_eq_hl_of_load_mem {r : Reg8} {m : MemOp} (h : loadForm (.reg r) (.mem m) = true) : r = .a ∨ m = .hl := by
  cases m <;> simp_all [loadForm]

/-- A memory operand other than (HL) is stored to from A only (R160). -/
theorem eq_a_or_eq_hl_of_store_reg {r : Reg8} {m : MemOp} (h : loadForm (.mem m) (.reg r) = true) : r = .a ∨ m = .hl := by
  cases m <;> simp_all [loadForm]

/-- An immediate byte is stored to (HL) only (R165). -/
theorem eq_hl_of_store_d8 {m : MemOp} {w : Byte} (h : loadForm (.mem m) (.d8 w) = true) : m = .hl := by
  cases m <;> simp [loadForm] at h ⊢

/-- The row of a load of A is named; that of any other byte load is the one at the opcode byte of its fields (R73). -/
theorem exists_variant_load8 {dst : Dst} {src : Src} (h : loadForm dst src = true) :
    ∃ i : Instr, i.variant = some (.load8 dst src) := by
  cases dst with
  | reg r =>
    cases src with
    | reg q => exact ⟨decodeAt (opcodeOfFields 0b01 r.field q.field) 0 0, by cases r <;> cases q <;> rfl⟩
    | mem m =>
      obtain rfl | rfl := eq_a_or_eq_hl_of_load_mem h
      · exact exists_variant_load_a_mem m
      · exact ⟨decodeAt (opcodeOfFields 0b01 r.field 0b110) 0 0, by cases r <;> rfl⟩
    | d8 w => exact ⟨decodeAt (opcodeOfFields 0b00 r.field 0b110) w 0, by cases r <;> rfl⟩
  | mem m =>
    cases src with
    | reg q =>
      obtain rfl | rfl := eq_a_or_eq_hl_of_store_reg h
      · exact exists_variant_load_mem_a m
      · exact ⟨decodeAt (opcodeOfFields 0b01 0b110 q.field) 0 0, by cases q <;> rfl⟩
    | mem m' => cases m <;> simp [loadForm] at h
    | d8 w => exact ⟨.ld_mhl_d8 w, by rw [eq_hl_of_store_d8 h]; rfl⟩

/-- Operands that have an encoding are those of an instruction (R81). -/
theorem exists_variant_of_wf {v : Variant} (h : v.wf = true) : ∃ i : Instr, i.variant = some v := by
  cases v with
  | alu op src => exact exists_variant_alu op h
  | load8 dst src => exact exists_variant_load8 h
  | nop => exact ⟨.nop, rfl⟩
  | addSP e => exact ⟨.add_sp_e8 e, rfl⟩
  | storeSP a => exact ⟨.ld_ma16_sp a, rfl⟩
  | loadSPHL => exact ⟨.ld_sp_hl, rfl⟩
  | loadHLSP e => exact ⟨.ld_hl_sp_e8 e, rfl⟩
  | addHL rr => exact ⟨decodeAt (opcodeOfFields 0b00 (rr.field <<< 1 ||| 1) 0b001) 0 0, by cases rr <;> rfl⟩
  | push p => exact ⟨decodeAt (opcodeOfFields 0b11 (p.field <<< 1) 0b101) 0 0, by cases p <;> rfl⟩
  | pop p => exact ⟨decodeAt (opcodeOfFields 0b11 (p.field <<< 1) 0b001) 0 0, by cases p <;> rfl⟩
  | ret cc => exact ⟨decodeAt (conditionalOpcode cc 0b000 (opcodeOfFields 0b11 0b001 0b001)) 0 0, by cases cc <;> rfl⟩
  | loadPair rr w =>
    cases rr
    exacts [⟨.ld_bc_d16 w, rfl⟩, ⟨.ld_de_d16 w, rfl⟩, ⟨.ld_hl_d16 w, rfl⟩, ⟨.ld_sp_d16 w, rfl⟩]
  | jp cc a =>
    cases cc
    exacts [⟨.jp_nz_a16 a, rfl⟩, ⟨.jp_z_a16 a, rfl⟩, ⟨.jp_nc_a16 a, rfl⟩, ⟨.jp_c_a16 a, rfl⟩, ⟨.jp_a16 a, rfl⟩]
  | call cc a =>
    cases cc
    exacts [⟨.call_nz_a16 a, rfl⟩, ⟨.call_z_a16 a, rfl⟩, ⟨.call_nc_a16 a, rfl⟩, ⟨.call_c_a16 a, rfl⟩, ⟨.call_a16 a, rfl⟩]

/-! ### Instructions of one variant are equal -/

/-- The variant gives the opcode byte and the immediates, and so the whole encoding (R70, R73). -/
theorem encode_of_variant {i : Instr} {v : Variant} (h : i.variant = some v) :
    v.fieldOpcode.map (· :: v.immediates) = some (encode i) := by
  rw [fieldViewAgreesWithOpcodeMap i v h, encode, operands_of_variant h]
  rfl

theorem encode_injective : Function.Injective encode := by
  intro i j h
  have hdecode : decode (encode i ++ []) = .ok (j, []) := h ▸ decode_encode_append j []
  rw [decode_encode_append, Except.ok.injEq, Prod.mk.injEq] at hdecode
  exact hdecode.1

/-! ### What a byte load and the step of its bytes do (R73, R160) -/

/-- A byte load leaves what the shared operation leaves, under the opcode byte of the field view at its operands. -/
theorem exec_and_encodedStep_of_load8 {i : Instr} {dst : Dst} {src : Src} {op : Byte} {s t : State}
    (h : i.variant = some (.load8 dst src)) (hop : loadOpcode dst src = some op) (hrun : s.runLoad8 dst src = t) :
    exec i s = .next t ∧ EncodedStep i (op :: (dst.immediates ++ src.immediates)) s t := by
  have hfield : loadOpcode dst src = some i.opcode := fieldViewAgreesWithOpcodeMap i _ h
  rw [Option.some.inj (hop.symm.trans hfield)]
  exact exec_and_encodedStep_of_run h hrun

/-- 110 in a field of R74 is (HL), so no register has it. -/
theorem reg8_field_ne_six (r : Reg8) : r.field ≠ 6 := by
  cases r <;> decide

theorem loadOpcode_reg_reg (r q : Reg8) :
    loadOpcode (.reg r) (.reg q) = some (0x40 ||| r.field <<< 3 ||| q.field) :=
  if_neg fun h => reg8_field_ne_six r h.1

theorem loadOpcode_reg_mhl (r : Reg8) : loadOpcode (.reg r) (.mem .hl) = some (0x46 ||| r.field <<< 3) := by
  cases r <;> rfl

theorem loadOpcode_mhl_reg (r : Reg8) : loadOpcode (.mem .hl) (.reg r) = some (0x70 ||| r.field) := by
  cases r <;> rfl

theorem loadOpcode_reg_d8 (r : Reg8) (v : Byte) : loadOpcode (.reg r) (.d8 v) = some (0x06 ||| r.field <<< 3) := by
  cases r <;> rfl

/-- A load into a register, from a source that does not adjust HL, writes that register and PC (R161, R162, R164). -/
theorem State.runLoad8_reg (s : State) (r : Reg8) {src : Src} (h : ∀ t : State, t.adjustHL src.memOp = t) :
    s.runLoad8 (.reg r) src =
      { s.setReg r (s.readSrc src) with pc := s.pc + BitVec.ofNat 16 (max 1 src.width) } := by
  rw [← s.setReg_pc r (s.readSrc src)]
  exact congrArg (State.advance · _) (h _)

/-- A store to (HL) writes that byte and PC (R163, R165). -/
theorem State.runLoad8_mhl (s : State) {src : Src} (h : src.memOp = none) :
    s.runLoad8 (.mem .hl) src =
      { s with
        mem := s.mem.write (mkWord s.h s.l).toNat (s.readSrc src)
        pc := s.pc + BitVec.ofNat 16 (max 1 src.width) } := by
  rw [runLoad8, h]
  rfl

/-- LD A,m takes the byte at the operand's address, and only then adjusts HL (R168 to R179, R181). -/
theorem State.runLoad8_a_mem (s : State) (m : MemOp) :
    s.runLoad8 (.reg .a) (.mem m) =
      (({ s with a := s.readByte (s.addrOf m) } : State).adjustHL (some m)).advance m.width := by
  cases m <;> rfl

/-- LD m,A puts A at the operand's address, and only then adjusts HL (R166 to R178, R181). -/
theorem State.runLoad8_mem_a (s : State) (m : MemOp) :
    s.runLoad8 (.mem m) (.reg .a) =
      (({ s with mem := s.mem.write (s.addrOf m).toNat s.a } : State).adjustHL (some m)).advance m.width := by
  cases m <;> rfl

/-- The high-page address as a number (R176 to R179). -/
theorem highPage_toNat (v : Byte) : (highPage v).toNat = 0xFF00 + v.toNat :=
  mkWord_toNat 0xFF v

/-! ### The obligations -/

/-- Settles O5: each operand form that has an encoding names its instruction; a variant gives the bytes of its instruction. -/
theorem encodableVariantsAreTheAssignedInstructions : Obligations.EncodableVariantsAreTheAssignedInstructions := by
  refine ⟨fun v => ⟨exists_variant_of_wf, fun ⟨_, h⟩ => wf_of_variant h⟩, fun i j v hi hj => ?_⟩
  have hencode : some (encode i) = some (encode j) := (encode_of_variant hi).symm.trans (encode_of_variant hj)
  exact encode_injective (Option.some.inj hencode)

/-- Settles O43: a register source leaves HL alone. -/
theorem loadRegisterFromRegister : Obligations.LoadRegisterFromRegister :=
  fun _ r q s h => exec_and_encodedStep_of_load8 h (loadOpcode_reg_reg r q) (s.runLoad8_reg r fun _ => rfl)

/-- Settles O44: the operand (HL) leaves HL alone, as a source and as a target. -/
theorem loadAndStoreThroughHL : Obligations.LoadAndStoreThroughHL :=
  fun _ r s =>
    ⟨fun h => exec_and_encodedStep_of_load8 h (loadOpcode_reg_mhl r) (s.runLoad8_reg r fun _ => rfl),
      fun h => exec_and_encodedStep_of_load8 h (loadOpcode_mhl_reg r) (s.runLoad8_mhl rfl)⟩

/-- Settles O45: the immediate gives the instruction its second byte. -/
theorem loadImmediateByte : Obligations.LoadImmediateByte :=
  fun _ r v s =>
    ⟨fun h => exec_and_encodedStep_of_load8 h (loadOpcode_reg_d8 r v) (s.runLoad8_reg r fun _ => rfl),
      exec_and_encodedStep_of_load8 (i := .ld_mhl_d8 v) rfl rfl (s.runLoad8_mhl rfl)⟩

/-- Settles O46: the adjustment that follows the transfer does nothing for (BC) and (DE). -/
theorem loadAndStoreThroughBCAndDE : Obligations.LoadAndStoreThroughBCAndDE :=
  fun s =>
    ⟨exec_and_encodedStep_of_load8 (i := .ld_mbc_a) rfl rfl (s.runLoad8_mem_a .bc),
      exec_and_encodedStep_of_load8 (i := .ld_mde_a) rfl rfl (s.runLoad8_mem_a .de),
      exec_and_encodedStep_of_load8 (i := .ld_a_mbc) rfl rfl (s.runLoad8_a_mem .bc),
      exec_and_encodedStep_of_load8 (i := .ld_a_mde) rfl rfl (s.runLoad8_a_mem .de)⟩

/-- Settles O47: the adjustment follows the transfer, which changes neither H nor L. -/
theorem postIncrementAndDecrementOfHL : Obligations.PostIncrementAndDecrementOfHL :=
  fun s =>
    ⟨exec_and_encodedStep_of_load8 (i := .ld_mhli_a) rfl rfl (s.runLoad8_mem_a .hlInc),
      exec_and_encodedStep_of_load8 (i := .ld_mhld_a) rfl rfl (s.runLoad8_mem_a .hlDec),
      exec_and_encodedStep_of_load8 (i := .ld_a_mhli) rfl rfl (s.runLoad8_a_mem .hlInc),
      exec_and_encodedStep_of_load8 (i := .ld_a_mhld) rfl rfl (s.runLoad8_a_mem .hlDec)⟩

/-- Settles O48: the address is the immediate, low byte first in the encoding. -/
theorem loadAndStoreAtDirectAddress : Obligations.LoadAndStoreAtDirectAddress :=
  fun a s =>
    ⟨exec_and_encodedStep_of_load8 (i := .ld_ma16_a a) rfl rfl (s.runLoad8_mem_a (.direct a)),
      exec_and_encodedStep_of_load8 (i := .ld_a_ma16 a) rfl rfl (s.runLoad8_a_mem (.direct a))⟩

/-- Settles O49: the statement's number is the high-page address of the operation. -/
theorem highPageLoadsAndStores : Obligations.HighPageLoadsAndStores := by
  intro v s
  rw [← highPage_toNat v, ← highPage_toNat s.c]
  exact
    ⟨exec_and_encodedStep_of_load8 (i := .ldh_ma8_a v) rfl rfl (s.runLoad8_mem_a (.high v)),
      exec_and_encodedStep_of_load8 (i := .ldh_a_ma8 v) rfl rfl (s.runLoad8_a_mem (.high v)),
      exec_and_encodedStep_of_load8 (i := .ld_mc_a) rfl rfl (s.runLoad8_mem_a .highC),
      exec_and_encodedStep_of_load8 (i := .ld_a_mc) rfl rfl (s.runLoad8_a_mem .highC)⟩

end Sys2Proof.Machine

/-! Proofs for the family of the word loads (44_load16.md): what each operation leaves, in the fields that the statements
name. -/

namespace Sys2Proof.Machine

/-! ### What the word loads and the word store do (R200 to R203) -/

namespace State

theorem runLoadPair_bc (s : State) (v : Word) :
    s.runLoadPair .bc v = { s with b := hiByte v, c := loByte v, pc := s.pc + 3 } := rfl

theorem runLoadPair_de (s : State) (v : Word) :
    s.runLoadPair .de v = { s with d := hiByte v, e := loByte v, pc := s.pc + 3 } := rfl

theorem runLoadPair_hl (s : State) (v : Word) :
    s.runLoadPair .hl v = { s with h := hiByte v, l := loByte v, pc := s.pc + 3 } := rfl

theorem runLoadPair_sp (s : State) (v : Word) : s.runLoadPair .sp v = { s with sp := v, pc := s.pc + 3 } := rfl

/-- LD (a16),SP writes the low byte of SP first, then the high byte at the next address, and PC (R45, R202). -/
theorem runStoreSP_eq (s : State) (a : Word) :
    s.runStoreSP a =
      { s with
        mem := (s.mem.write a.toNat (loByte s.sp)).write (a + 1).toNat (hiByte s.sp)
        pc := s.pc + 3 } :=
  congrArg (advance · 3) (s.writeWord_eq a s.sp)

theorem runLoadSPHL_eq (s : State) : s.runLoadSPHL = { s with sp := mkWord s.h s.l, pc := s.pc + 1 } := rfl

end State

/-! ### The obligations -/

/-- Settles O50: the two bytes of the statement are the halves of the immediate word. -/
theorem loadImmediateWord : Obligations.LoadImmediateWord := by
  intro lo hi s
  generalize hw : mkWord hi lo = w
  obtain rfl : hiByte w = hi := hw ▸ hiByte_mkWord hi lo
  obtain rfl : loByte w = lo := hw ▸ loByte_mkWord _ lo
  exact
    ⟨exec_and_encodedStep_of_run (i := .ld_bc_d16 w) rfl (s.runLoadPair_bc w),
      exec_and_encodedStep_of_run (i := .ld_de_d16 w) rfl (s.runLoadPair_de w),
      exec_and_encodedStep_of_run (i := .ld_hl_d16 w) rfl (s.runLoadPair_hl w),
      exec_and_encodedStep_of_run (i := .ld_sp_d16 w) rfl (s.runLoadPair_sp w)⟩

/-- Settles O51: the store is the two writes of the word-write primitive, and the load takes the pair HL. -/
theorem storeAndLoadSP : Obligations.StoreAndLoadSP :=
  fun a s =>
    ⟨exec_and_encodedStep_of_run (i := .ld_ma16_sp a) rfl (s.runStoreSP_eq a),
      exec_and_encodedStep_of_run (i := .ld_sp_hl) rfl s.runLoadSPHL_eq⟩

end Sys2Proof.Machine

/-! Proofs for the family of the stack (45_stack.md): PUSH and POP in closed form, and that the word on top of the stack after a
push is the word that was pushed. -/

namespace Sys2Proof.Machine

open Sys2Proof.Statements

/-! ### What PUSH and POP do (R210 to R215) -/

theorem pair_eq_pairValue (s : State) (p : Pair) : s.pair p = pairValue s p := by
  cases p <;> rfl

namespace State

/-- PUSH of a pair writes the two bytes below SP, SP and PC (R210 to R212). -/
theorem runPush_eq (s : State) (p : Pair) :
    s.runPush p = { s with sp := s.sp - 2, mem := pushed s (pairValue s p), pc := s.pc + 1 } := by
  rw [runPush, push16_eq, pair_eq_pairValue]
  rfl

/-- POP of a pair writes the pair, from the word on top of the stack, SP and PC (R213 to R215). -/
theorem runPop_eq (s : State) (p : Pair) :
    s.runPop p = { s with sp := s.sp + 2, pc := s.pc + 1 }.setPair p (stackTop s) := by
  rw [runPop, pop16_eq]
  cases p <;> rfl

/-! ### What a push leaves for a pop (R216) -/

/-- The two bytes of a push are at different addresses, so both are there to be popped, wherever SP is (R212, R215). -/
theorem stackTop_push16 (s : State) (v : Word) : stackTop (s.push16 v) = v := by
  have hsp : (s.push16 v).sp = s.sp - 2 := by rw [push16_eq]
  have hhi : s.sp - 2 + 1 = s.sp - 1 := by bv_omega
  have hne : s.sp - 1 ≠ s.sp - 2 := by bv_omega
  rw [stackTop, hsp, hhi, readByte_push16, readByte_push16, if_neg hne, if_pos rfl, if_pos rfl, mkWord_hi_lo]

theorem stackTop_runPush (s : State) (p : Pair) : stackTop (s.runPush p) = pairValue s p := by
  rw [← pair_eq_pairValue]
  exact s.stackTop_push16 (s.pair p)

/-- Writing a pair's own value changes nothing: the flags are what their packed byte unpacks to (R12, R14). -/
theorem setPair_eq_self {s : State} {p : Pair} {v : Word} (h : pairValue s p = v) : s.setPair p v = s := by
  subst h
  cases p <;> simp [setPair, pairValue]

/-- POP after PUSH of the same pair leaves the pushed bytes below SP, and PC past both (R216). -/
theorem runPop_runPush (s : State) (p : Pair) :
    (s.runPush p).runPop p = { s with mem := pushed s (pairValue s p), pc := s.pc + 2 } := by
  have hsp : s.sp - 2 + 2 = s.sp := by bv_omega
  have hpc : s.pc + 1 + 1 = s.pc + 2 := by bv_omega
  rw [runPop_eq, stackTop_runPush, runPush_eq]
  simp only [hsp, hpc]
  exact setPair_eq_self (by cases p <;> rfl)

end State

/-- The opcode byte of PUSH, `11 pp0 101` (R73, R75). -/
theorem opcode_of_push {i : Instr} {p : Pair} (h : i.variant = some (.push p)) : i.opcode = 0xC5 ||| p.field <<< 4 := by
  have hop : some (opcodeOfFields 0b11 (p.field <<< 1) 0b101) = some i.opcode := fieldViewAgreesWithOpcodeMap i _ h
  rw [← Option.some.inj hop]
  cases p <;> rfl

/-! ### The obligations -/

/-- Settles O52: the operation is the push in closed form, and the byte is that of the field view. -/
theorem pushWritesPairBelowSP : Obligations.PushWritesPairBelowSP := by
  intro i p s h t
  have hrun := exec_and_encodedStep_of_run h (s.runPush_eq p)
  rwa [opcode_of_push h] at hrun

/-- Settles O54: each instruction runs the operation of its variant, and the pop of what was pushed writes it back. -/
theorem popUndoesPush : Obligations.PopUndoesPush := by
  intro i j p s t u hi hj ht hu
  rw [exec_of_variant hi] at ht
  rw [exec_of_variant hj] at hu
  cases ht
  cases hu
  exact s.runPop_runPush p

/-- Settles O53: the two bytes of the statement are the halves of the word on top of the stack. -/
theorem popReadsPairAtSP : Obligations.PopReadsPairAtSP := by
  intro s lo hi
  rw [← show hiByte (stackTop s) = hi from hiByte_mkWord hi lo, ← show loByte (stackTop s) = lo from loByte_mkWord hi lo]
  exact
    ⟨exec_and_encodedStep_of_run (i := .pop_bc) rfl (s.runPop_eq .bc),
      exec_and_encodedStep_of_run (i := .pop_de) rfl (s.runPop_eq .de),
      exec_and_encodedStep_of_run (i := .pop_hl) rfl (s.runPop_eq .hl),
      exec_and_encodedStep_of_run (i := .pop_af) rfl (s.runPop_eq .af)⟩

end Sys2Proof.Machine

/-! Proofs for the family of calls and returns (46_call_ret.md): CALL and RET in closed form, and that the word on top of the
stack after a taken CALL is its return address. -/

namespace Sys2Proof.Machine

open Sys2Proof.Statements

/-! ### What CALL and RET do (R220 to R223) -/

namespace State

/-- A taken CALL pushes the return address and goes to its target (R220, R221). -/
theorem runCall_taken (s : State) {cc : Cond} (a : Word) (h : conditionHolds cc s.f = true) :
    s.runCall cc a = { s.push16 (s.pc + 3) with pc := a } := by
  rw [runCall, holds_eq_conditionHolds, if_pos h]

/-- A CALL writes the two bytes below SP, SP and PC when it is taken, and PC only when it is not (R212, R220, R221). -/
theorem runCall_eq (s : State) (cc : Cond) (a : Word) :
    s.runCall cc a =
      if conditionHolds cc s.f
        then { s with sp := s.sp - 2, mem := pushed s (s.pc + 3), pc := a }
        else { s with pc := s.pc + 3 } := by
  split
  · next h => rw [runCall_taken s a h, push16_eq]; rfl
  · next h => exact s.runCall_not_taken a (eq_false_of_ne_true h)

/-- A RET writes SP and PC when it is taken, and PC only when it is not (R222, R223). -/
theorem runRet_eq (s : State) (cc : Cond) :
    s.runRet cc =
      if conditionHolds cc s.f
        then { s with sp := s.sp + 2, pc := stackTop s }
        else { s with pc := s.pc + 1 } := by
  rw [runRet, holds_eq_conditionHolds, pop16_eq]
  rfl

/-! ### What a CALL leaves for a RET (R224) -/

theorem sp_runCall_taken (s : State) {cc : Cond} (a : Word) (h : conditionHolds cc s.f = true) :
    (s.runCall cc a).sp = s.sp - 2 := by
  rw [runCall_eq, if_pos h]

/-- The jump that follows the push leaves the stack as the push left it. -/
theorem stackTop_runCall_taken (s : State) {cc : Cond} (a : Word) (h : conditionHolds cc s.f = true) :
    stackTop (s.runCall cc a) = s.pc + 3 := by
  rw [runCall_taken s a h]
  exact s.stackTop_push16 (s.pc + 3)

end State

/-- The word on top of the stack depends on SP and the two bytes there only (R215). -/
theorem stackTop_congr {s t : State} (hlo : s.readByte s.sp = t.readByte t.sp)
    (hhi : s.readByte (s.sp + 1) = t.readByte (t.sp + 1)) : stackTop s = stackTop t := by
  rw [stackTop, hlo, hhi, stackTop]

/-- The opcode byte of CALL: `11 0cc 100` with a condition, `11 001 101` without one (R73, R76). -/
theorem opcode_of_call {i : Instr} {cc : Cond} {a : Word} (h : i.variant = some (.call cc a)) :
    i.opcode = match cc.field with | some k => 0xC4 ||| k <<< 3 | none => 0xCD := by
  have hop : some (conditionalOpcode cc 0b100 (opcodeOfFields 0b11 0b001 0b101)) = some i.opcode :=
    fieldViewAgreesWithOpcodeMap i _ h
  rw [← Option.some.inj hop]
  cases cc <;> rfl

/-- The opcode byte of RET: `11 0cc 000` with a condition, `11 001 001` without one (R73, R76). -/
theorem opcode_of_ret {i : Instr} {cc : Cond} (h : i.variant = some (.ret cc)) :
    i.opcode = match cc.field with | some k => 0xC0 ||| k <<< 3 | none => 0xC9 := by
  have hop : some (conditionalOpcode cc 0b000 (opcodeOfFields 0b11 0b001 0b001)) = some i.opcode :=
    fieldViewAgreesWithOpcodeMap i _ h
  rw [← Option.some.inj hop]
  cases cc <;> rfl

/-! ### The obligations -/

/-- Settles O40: the operation is the call in closed form, and the bytes are those of the field view. -/
theorem callPushesReturnAddressWhenTaken : Obligations.CallPushesReturnAddressWhenTaken := by
  intro i cc a s h t
  obtain ⟨hexec, hstep⟩ := exec_and_encodedStep_of_run h (s.runCall_eq cc a)
  rw [opcode_of_call h] at hstep
  exact ⟨hexec, hstep⟩

/-- Settles O41: the operation is the return in closed form, and the byte is that of the field view. -/
theorem returnPopsPCWhenTaken : Obligations.ReturnPopsPCWhenTaken := by
  intro i cc s h t
  obtain ⟨hexec, hstep⟩ := exec_and_encodedStep_of_run h (s.runRet_eq cc)
  rw [opcode_of_ret h] at hstep
  exact ⟨hexec, hstep⟩

/-- Settles O42: the RET pops the word that the CALL pushed, since SP and the two bytes are still the CALL's. -/
theorem returnUndoesCall : Obligations.ReturnUndoesCall := by
  intro i j cc cc' a s t u v hi hcall ht hsp hlo hhi hj hret hv
  rw [exec_of_variant hi] at ht
  rw [exec_of_variant hj] at hv
  cases ht
  cases hv
  have htop : stackTop u = s.pc + 3 := (stackTop_congr hlo hhi).trans (s.stackTop_runCall_taken a hcall)
  have hback : u.sp + 2 = s.sp := by
    rw [hsp, State.run, s.sp_runCall_taken a hcall]
    bv_omega
  rw [State.run, State.runRet_eq, if_pos hret]
  exact ⟨hback, htop⟩

end Sys2Proof.Machine

/-! Proofs for the family of exceptions (60_exceptions.md): what a step can end in, the fault report that it leaves, and runs
that reach a Faulted machine. -/

namespace Sys2Proof.Machine

/-! ### What a step can end in (R243, R245) -/

/-- A step runs the variant of the fetched instruction and ends Running, or raises the report of an instruction that has
none. -/
theorem step_cases {s t : State} (h : step s = .next t) :
    (∃ v, t = s.run v ∧ t.status = .running) ∨
      (s.fetch.variant = none ∧ t = s.raise (reportOf s.fetch)) := by
  obtain ⟨hr, he⟩ := step_eq_next h
  obtain ⟨v, -, -, rfl⟩ | hraise := exec_cases he
  · exact .inl ⟨v, rfl, (status_run s v).trans hr⟩
  · exact .inr hraise

/-- A step that ends Faulted changes the run status only (R245). -/
theorem eq_raise_of_step_faulted {s t : State} {r : FatalCondition} (h : step s = .next t)
    (hr : t.status = .faulted r) : t = s.raise r := by
  obtain ⟨v, -, hrun⟩ | ⟨-, rfl⟩ := step_cases h
  · cases hrun.symm.trans hr
  · cases hr
    rfl

/-! ### The fault report and the bytes at PC (R240) -/

namespace State

theorem reportAgrees_of_running {s : State} (h : s.status = .running) : s.reportAgrees := by
  rw [reportAgrees, h]
  trivial

/-- The report of a fetched instruction without a variant agrees with the bytes at PC: the escape 0xCB and the byte after
it, or a byte without an entry. -/
theorem reportAgrees_raise_fetch {s : State} (hv : s.fetch.variant = none) :
    (s.raise (reportOf s.fetch)).reportAgrees := by
  by_cases hcb : s.readByte s.pc = 0xCB
  · rw [fetch_of_prefix hcb]
    exact ⟨hcb, rfl⟩
  · have hsecond : s.fetch.secondByte = none := secondByte_eq_none_iff.mpr (by rwa [opcode_fetch])
    have hentry : decodeEntry (s.readByte s.pc) false 0 0 = none :=
      decodeEntry_eq_none_iff.mpr (variant_decodeAt_eq_none_iff.mpr (variant_decodeAt_eq_none_iff.mp hv))
    rw [reportOf, hsecond, opcode_fetch]
    exact ⟨rfl, hcb, Option.isNone_iff_eq_none.mpr hentry⟩

end State

/-! ### Runs -/

/-- A run that goes on after `k` steps is the run from the state they reach. -/
theorem run_add {M : Host.Core} {k : Nat} {s t : M.State} (n : Nat) (h : M.run k s = .next t) :
    M.run (k + n) s = M.run n t := by
  induction k generalizing s with
  | zero =>
    cases h
    rw [Nat.zero_add]
  | succ k ih =>
    rw [Nat.succ_add]
    cases hs : M.step s with
    | next u =>
      simp only [Host.Core.run, hs] at h ⊢
      exact ih h
    | fault r => simp only [Host.Core.run, hs, reduceCtorEq] at h
    | refused r => simp only [Host.Core.run, hs, reduceCtorEq] at h

/-! ### The obligations -/

/-- Settles O13: a variant keeps the memory canonical and leaves the machine Running; a raise keeps the memory, and its report
is that of the bytes fetched. -/
theorem stepKeepsInvariant : Obligations.StepKeepsInvariant := by
  intro s t hinv h
  obtain ⟨v, rfl, hrun⟩ | ⟨hv, rfl⟩ := step_cases h
  · exact ⟨wf_run v hinv.memory, State.reportAgrees_of_running hrun⟩
  · exact ⟨hinv.memory, State.reportAgrees_raise_fetch hv⟩

/-- Settles O11: only a raise ends Faulted, and a run goes on from the state it has reached, which has no step. -/
theorem faultedIsTerminal : Obligations.FaultedIsTerminal := by
  intro s t r k n hrun hr
  have hhalt : step t = .fault (.halted r) := step_of_faulted hr
  refine ⟨fun u hu => eq_raise_of_step_faulted hu hr, hhalt, ?_⟩
  rw [Nat.add_assoc, run_add (n + 1) hrun, run_succ_fault n t _ hhalt]

/-- Settles O10: a Running machine executes what it fetches, and every instruction answers a next state. -/
theorem runningMachineAlwaysSteps : Obligations.RunningMachineAlwaysSteps := by
  intro s hr
  rw [step_of_running hr]
  exact exec_next s.fetch s

end Sys2Proof.Machine

/-! Proofs for the family of reset (70_reset_and_hazards.md): the memory that reset builds reads as its parameter. -/

namespace Sys2Proof.Machine

/-! ### The memory at reset (R25, R270) -/

/-- The memory built from a function reads, at every 16-bit address, as that function (R25, RESET_MEM). -/
@[simp] theorem Memory.read_ofFun (f : Word → Byte) (a : Word) : (ofFun f).read a.toNat = f a := by
  have hin : 0 ≤ a.toNat ∧ a.toNat < 0 + Config.memSize := ⟨Nat.zero_le _, by rw [Nat.zero_add]; exact a.isLt⟩
  rw [ofFun, List.range_eq_range']
  exact (read_filterMap_range' f 0 Config.memSize a.toNat).trans
    (by rw [if_pos hin, BitVec.ofNat_toNat, BitVec.setWidth_eq])

namespace State

/-- Proved by unfolding `construct` alone: a plain `rfl` would evaluate the memory over the whole address space. -/
@[simp] theorem mem_construct (p : ResetParams) : (construct p).mem = Memory.ofFun p.mem := by
  rw [construct]

theorem wf_mem_construct (p : ResetParams) : (construct p).mem.wf = true := by
  rw [mem_construct]
  exact Memory.wf_ofFun p.mem

theorem readByte_construct (p : ResetParams) (a : Word) : (construct p).readByte a = p.mem a := by
  rw [readByte, mem_construct, Memory.read_ofFun]

end State

/-! ### The obligations -/

/-- Settles O25: each register is its parameter by construction, and the canonical memory lists exactly the bytes of RESET_MEM
that differ from what an unlisted address reads as. -/
theorem resetTakesItsParameters : Obligations.ResetTakesItsParameters := fun p =>
  ⟨rfl, rfl, rfl, rfl, rfl, rfl, rfl, rfl, rfl, rfl, rfl, State.wf_mem_construct p, State.readByte_construct p,
    construct_default⟩

end Sys2Proof.Machine
